-- ==== Sys2Proof/Word.lean ====
section
/-! DEFINITION. The two widths of the block (00_scope.md R13): bytes and 16-bit flash words. -/

namespace Sys2Proof

/-- `UInt8` of the spec (R13): arithmetic modulo 256. -/
abbrev Byte := BitVec 8

/-- `UInt16` of the spec (R13): a flash word or a word address. -/
abbrev Word := BitVec 16

/-- A 7-bit bus device address (R49). -/
abbrev BusAddr := BitVec 7

end Sys2Proof
end

