-- ==== Sys2Proof/Config.lean ====
section
/-! DEFINITION. What an implementation fixes (00_scope.md R7 to R11): the parameters, as one record that `State`
carries and no step changes, the fixed constants of the source, and the values the spec leaves free (opaque). -/

namespace Sys2Proof

/-- `FLASH_WRITE_MODE` (R10). -/
inductive FlashWriteMode where
  | overwrite   -- a word becomes the written value
  | and         -- a word becomes old AND new
deriving DecidableEq, Repr

/-- `WRITE_COMMIT` (R10, 90_conflicts.md C2). -/
inductive WriteCommit where
  | afterChecksum
  | afterConfirm
deriving DecidableEq, Repr

/-- Which collaborator functions are connected (R11): those of the device, about which nothing is known, or the
test-only functions of R11 that the test vectors use. -/
inductive Collaborators where
  | external
  | testVectors
deriving DecidableEq, Repr

/-- The configuration of a `ClassicPlus-CORE` (R7 to R11). Register addresses and lengths are plain numbers: the
region decode compares them, never wraps them (R12 checks (3) and (4)). -/
structure Config where
  /-- `DUAL` (R7). -/
  dual : Bool
  /-- `RUNTIME` (R7). -/
  runtime : Bool
  /-- `CAL_LEN` (R7): 14 or 32. -/
  calLen : Nat
  /-- `ADDR_A` (R8). -/
  addrA : BusAddr
  /-- `ADDR_B` (R8). -/
  addrB : BusAddr
  /-- `ADDR_MASK` (R8): a set bit is compared. -/
  addrMask : BusAddr
  /-- `APP_BASE` (R8). -/
  appBase : Nat
  /-- `APP_LEN` (R8). -/
  appLen : Nat
  /-- `CAL_BASE` (R8). -/
  calBase : Nat
  /-- `KEY_BASE` (R8). -/
  keyBase : Nat
  /-- `CMD_REG` (R8). -/
  cmdReg : Nat
  /-- `CUSTOM_REG` (R8). -/
  customReg : Nat
  /-- `ID_BASE` (R8). -/
  idBase : Nat
  /-- `DATA_BASE` (R8). -/
  dataBase : Nat
  /-- `DATA_LEN` (R8). -/
  dataLen : Nat
  /-- `ID_A` (R8): six bytes. -/
  idA : List Byte
  /-- `ID_B` (R8): six bytes. -/
  idB : List Byte
  /-- `CUSTOM_ID` (R8). -/
  customId : Byte
  /-- `C_ERASE` (R9). -/
  cErase : Byte
  /-- `C_WRITE` (R9). -/
  cWrite : Byte
  /-- `C_READ` (R9). -/
  cRead : Byte
  /-- `C_DISABLE` (R9). -/
  cDisable : Byte
  /-- `C_PROG_EN` (R9). -/
  cProgEn : Byte
  /-- `C_CFG_EN` (R9). -/
  cCfgEn : Byte
  /-- `C_CFG_DIS` (R9). -/
  cCfgDis : Byte
  /-- `C_CAL_LOAD` (R9). -/
  cCalLoad : Byte
  /-- `C_CAL_STORE` (R9). -/
  cCalStore : Byte
  /-- `C_CAL_DEFAULT` (R9). -/
  cCalDefault : Byte
  /-- `C_ENC_EN` (R9). -/
  cEncEn : Byte
  /-- `BOUNDARY` (R10): lowest word address of the application image. -/
  boundary : Nat
  /-- `FLASH_WORDS` (R10): the flash has word addresses `0` to `FLASH_WORDS - 1`. -/
  flashWords : Nat
  /-- `ERASED_WORD` (R10). -/
  erasedWord : Word
  /-- `WORD_MASK` (R10). -/
  wordMask : Word
  /-- `FLASH_WRITE_MODE` (R10). -/
  flashWriteMode : FlashWriteMode
  /-- `WRITE_COMMIT` (R10). -/
  writeCommit : WriteCommit
  /-- `CAL_DEFAULT` (R10): `CAL_LEN` bytes. -/
  calDefault : List Byte
  /-- The functions of R11. -/
  collaborators : Collaborators
deriving DecidableEq, Repr

/-- `SENTINEL` (R8, fixed by the source): all ones. -/
abbrev sentinel : Byte := 0xFF

/-- `ROW_WORDS` (R10, fixed by the source). -/
abbrev rowWords : Nat := 32

/-- `MAX_WORDS` (R10, fixed by the source). -/
abbrev maxWords : Nat := 32

/-- `CAP` (R7): the number of register-file bytes. -/
def Config.cap (c : Config) : Nat := if c.dual then 512 else 256

/-- Whether a 7-bit address reaches the block (30_encoding.md R77, 20_memory.md R49). -/
def Config.matchesAddr (c : Config) (a : BusAddr) : Bool :=
  if c.dual then (a &&& c.addrMask) == (c.addrA &&& c.addrMask) else a == c.addrA

/-- The reference configuration of the test vectors (R8 to R10, 95_test_vectors.md): single device, runtime build,
14 calibration bytes. A single build compares every address bit (R12 check (10)). The collaborators are the
device's own, of which nothing is known. -/
def Config.reference : Config where
  dual := false
  runtime := true
  calLen := 14
  addrA := 0x52
  addrB := 0x53
  addrMask := 0x7F
  appBase := 0x00
  appLen := 0x20
  calBase := 0x20
  keyBase := 0x40
  cmdReg := 0xE0
  customReg := 0xE4
  idBase := 0xFA
  dataBase := 0x00
  dataLen := 0x80
  idA := [0x00, 0x00, 0xA4, 0x20, 0x01, 0x01]
  idB := [0x00, 0x00, 0xA4, 0x20, 0x00, 0x00]
  customId := 0x5A
  cErase := 0x20
  cWrite := 0x21
  cRead := 0x22
  cDisable := 0x23
  cProgEn := 0x30
  cCfgEn := 0x31
  cCfgDis := 0x32
  cCalLoad := 0x33
  cCalStore := 0x34
  cCalDefault := 0x35
  cEncEn := 0x36
  boundary := 0x0400
  flashWords := 0x2000
  erasedWord := 0xFFFF
  wordMask := 0xFFFF
  flashWriteMode := .overwrite
  writeCommit := .afterChecksum
  calDefault := [0x10, 0x11, 0x12, 0x13, 0x14, 0x15, 0x16, 0x17, 0x18, 0x19, 0x1A, 0x1B, 0x1C, 0x1D]
  collaborators := .external

/-- `ENCODE(key, r, b)` of the device (R11, 20_memory.md R69): nothing is assumed of it. -/
opaque Config.encode : List Byte → Byte → Byte → Byte

/-- `DECODE(key, r, b)` of the device (R11, R69): nothing is assumed of it, not even that it inverts `ENCODE`. -/
opaque Config.decode : List Byte → Byte → Byte → Byte

/-- `DERIVE_KEY(key)` of the device (R11, R69): nothing is assumed of it. -/
opaque Config.deriveKey : List Byte → Bool

/-- The initial content of the flash (R11, 20_memory.md R52), a draw for each word address: any value. -/
opaque Config.initialFlash : Nat → Word

/-- The free byte of the `n`-th draw (10_state.md R20, 20_memory.md R52): any value. -/
opaque Config.freeByte : Nat → Byte

/-- The free word of the `n`-th draw (20_memory.md R67): any value. -/
opaque Config.freeWord : Nat → Word

end Sys2Proof
end

