-- ==== Sys2Proof/Syntax.lean ====
section
/-! DEFINITION. The instructions (one constructor per row of spec/opcode_table.json), the inputs that carry them, and
the slots: the selectors of the opcode table that decide how a byte is read. -/

namespace Sys2Proof

/-- The 53 rows of the opcode table. A row's operand is the byte (or address, or index) the event brings; a read row
brings none: its `d` is the byte the block returns. -/
inductive Instr where
  /-- ADDR_W (40_bus_front_end.md R93). -/
  | addrW (a : BusAddr)
  /-- ADDR_R (R94). -/
  | addrR (a : BusAddr)
  /-- PTR (R97). -/
  | ptr (r : Byte)
  /-- WR (R98). -/
  | wr (d : Byte)
  /-- RD (R99). -/
  | rd
  /-- STOP (R103). -/
  | stop
  /-- OVF (R105). -/
  | ovf
  /-- APPWR (R108): a 9-bit register-file index and a byte. -/
  | appwr (idx : BitVec 9) (b : Byte)
  /-- TICK (R109). -/
  | tick
  /-- RESET (70_reset_and_hazards.md R214). -/
  | reset
  /-- WR_APP (41_register_access.md R111). -/
  | wrApp (d : Byte)
  /-- WR_CAL (R112). -/
  | wrCal (d : Byte)
  /-- WR_KEY (R113). -/
  | wrKey (d : Byte)
  /-- WR_CMD (R114). -/
  | wrCmd (d : Byte)
  /-- WR_CMDP (R115). -/
  | wrCmdp (d : Byte)
  /-- WR_CUSTOM (R116). -/
  | wrCustom (d : Byte)
  /-- WR_ID (R117). -/
  | wrId (d : Byte)
  /-- WR_INVALID (R118). -/
  | wrInvalid (d : Byte)
  /-- WR_DATA (R119). -/
  | wrData (d : Byte)
  /-- RD_APP (R121). -/
  | rdApp
  /-- RD_CAL (R122). -/
  | rdCal
  /-- RD_KEY (R123). -/
  | rdKey
  /-- RD_ID (R124). -/
  | rdId
  /-- RD_CUSTOM (R125). -/
  | rdCustom
  /-- RD_CMD (R126). -/
  | rdCmd
  /-- RD_CMDP (R126). -/
  | rdCmdp
  /-- RD_INVALID (R127). -/
  | rdInvalid
  /-- RD_DATA (R128). -/
  | rdData
  /-- PCMD_ERASE (42_programming_session.md R132). -/
  | pcmdErase
  /-- PCMD_WRITE (R133). -/
  | pcmdWrite
  /-- PCMD_READ (R135). -/
  | pcmdRead
  /-- PCMD_DISABLE (R134). -/
  | pcmdDisable
  /-- PCMD_OTHER (R136). -/
  | pcmdOther (code : Byte)
  /-- PARAM_ADDR_LO (R138). -/
  | paramAddrLo (p : Byte)
  /-- PARAM_ADDR_HI (R139, R140). -/
  | paramAddrHi (p : Byte)
  /-- PARAM_LEN (R141 to R145). -/
  | paramLen (p : Byte)
  /-- PARAM_OTHER (R146). -/
  | paramOther (p : Byte)
  /-- DATA_WR_LO (R148). -/
  | dataWrLo (d : Byte)
  /-- DATA_WR_HI (R149). -/
  | dataWrHi (d : Byte)
  /-- DATA_WR_CONFIRM (R151). -/
  | dataWrConfirm (d : Byte)
  /-- DATA_WR_OTHER (R147). -/
  | dataWrOther (d : Byte)
  /-- DATA_RD_LO (R153). -/
  | dataRdLo
  /-- DATA_RD_HI (R154). -/
  | dataRdHi
  /-- DATA_RD_CSUM (R155, R156). -/
  | dataRdCsum
  /-- DATA_RD_OTHER (R152). -/
  | dataRdOther
  /-- RCMD_PROG_EN (44_command_dispatcher.md R179). -/
  | rcmdProgEn
  /-- RCMD_CFG_EN (R180). -/
  | rcmdCfgEn
  /-- RCMD_CFG_DIS (R181). -/
  | rcmdCfgDis
  /-- RCMD_CAL_LOAD (R182). -/
  | rcmdCalLoad
  /-- RCMD_CAL_STORE (R183). -/
  | rcmdCalStore
  /-- RCMD_CAL_DEFAULT (R184). -/
  | rcmdCalDefault
  /-- RCMD_ENC_EN (R185). -/
  | rcmdEncEn
  /-- RCMD_OTHER (R186, R187). -/
  | rcmdOther (code : Byte)
deriving DecidableEq, Repr

/-- One input of the block: bus traffic a byte at a time, and the events that are not bus traffic (00_scope.md R6,
30_encoding.md R71). -/
inductive Event where
  /-- An ADDRESS byte on the bus (R72), to this block or to another device. -/
  | address (byte : Byte)
  /-- A byte the host writes. -/
  | write (b : Byte)
  /-- The host requests a byte. -/
  | read
  /-- The stop condition. -/
  | stop
  /-- The peripheral's overflow indication. -/
  | ovf
  /-- An application write. -/
  | appwr (idx : BitVec 9) (b : Byte)
  /-- One pass of the main loop. -/
  | tick
  /-- Reset. -/
  | reset
deriving DecidableEq, Repr

/-- The regions of the register map (10_state.md R36 to R38). -/
inductive Region where
  | app | cal | key | cmd | cmdp | custom | id | invalid | data
deriving DecidableEq, Repr

/-- What a parameter byte means in the current phase (42_programming_session.md R137). -/
inductive ParamRole where
  | addrLo | addrHi | len | other
deriving DecidableEq, Repr

/-- What a data-channel write means in the current session (R147). -/
inductive ChanWrite where
  | lo | hi | confirm | other
deriving DecidableEq, Repr

/-- What a data-channel read means in the current session (R152). -/
inductive ChanRead where
  | lo | hi | csum | other
deriving DecidableEq, Repr

/-- The selectors of the opcode table: where a byte stands decides which rows can read it (30_encoding.md R71, R79). -/
inductive Slot where
  /-- The first byte of a transaction. -/
  | address
  /-- The first data byte of a write transaction. -/
  | pointer
  /-- A written byte, whatever it reaches (row WR). -/
  | write
  /-- A requested byte, whatever it comes from (row RD). -/
  | read
  | stop
  | ovf
  | appwr (idx : BitVec 9)
  | tick
  | reset
  /-- A byte written in a region (rows WR_APP to WR_DATA). -/
  | regWrite (g : Region)
  /-- A byte read from a region (rows RD_APP to RD_DATA). -/
  | regRead (g : Region)
  /-- A byte written at the command register in programming mode (rows PCMD_…). -/
  | progCommand
  /-- A byte written at a parameter register in programming mode (rows PARAM_…). -/
  | param (p : ParamRole)
  /-- A byte written on the data channel (rows DATA_WR_…). -/
  | chanWrite (w : ChanWrite)
  /-- A byte read on the data channel (rows DATA_RD_…). -/
  | chanRead (r : ChanRead)
  /-- The pending runtime code found by a main-loop pass (rows RCMD_…). -/
  | pending
deriving DecidableEq, Repr

end Sys2Proof
end

