-- ==== Sys2Proof/WellFormed.lean ====
section
/-! DEFINITION. The checks a configuration (00_scope.md R12) and an instruction must pass. -/

namespace Sys2Proof

/-- A register range: first address and length. -/
structure RegRange where
  base : Nat
  len : Nat
deriving DecidableEq, Repr

/-- The two ranges share no address. -/
def RegRange.disjoint (p q : RegRange) : Bool :=
  p.len == 0 || q.len == 0 || decide (p.base + p.len ≤ q.base) || decide (q.base + q.len ≤ p.base)

/-- The range lies in `0x00..0xFF` without wrapping. -/
def RegRange.inHalf (p : RegRange) : Bool := decide (p.base + p.len ≤ 256)

/-- Pairwise disjoint and inside one half. -/
def rangesFit : List RegRange → Bool
  | [] => true
  | p :: ps => p.inHalf && ps.all p.disjoint && rangesFit ps

/-- No byte stands twice in the list. -/
def allDistinct : List Byte → Bool
  | [] => true
  | b :: bs => !bs.contains b && allDistinct bs

namespace Config

/-- The four codes of programming mode (R9). -/
def progCodes (c : Config) : List Byte := [c.cErase, c.cWrite, c.cRead, c.cDisable]

/-- The seven codes of runtime mode (R9). -/
def runtimeCodes (c : Config) : List Byte :=
  [c.cProgEn, c.cCfgEn, c.cCfgDis, c.cCalLoad, c.cCalStore, c.cCalDefault, c.cEncEn]

/-- The ranges of runtime mode (R12 check (3)). -/
def runtimeRanges (c : Config) : List RegRange :=
  [⟨c.appBase, c.appLen⟩, ⟨c.calBase, c.calLen⟩, ⟨c.keyBase, 16⟩, ⟨c.cmdReg, 4⟩, ⟨c.customReg, 1⟩, ⟨c.idBase, 6⟩]

/-- The ranges of programming mode (R12 check (4)). -/
def progRanges (c : Config) : List RegRange :=
  [⟨c.dataBase, c.dataLen⟩, ⟨c.cmdReg, 4⟩, ⟨c.customReg, 1⟩, ⟨c.idBase, 6⟩]

/-- R12 check (1). -/
def check1 (c : Config) : Bool := allDistinct c.progCodes
/-- R12 check (2). -/
def check2 (c : Config) : Bool := allDistinct c.runtimeCodes
/-- R12 check (3), "in runtime mode": asked of every build, a bootloader build among them, which is never in runtime
mode (DESIGN CHOICE, log entry 29). -/
def check3 (c : Config) : Bool := rangesFit c.runtimeRanges
/-- R12 check (4). -/
def check4 (c : Config) : Bool := rangesFit c.progRanges
/-- R12 check (5). -/
def check5 (c : Config) : Bool := c.dataBase == c.appBase
/-- R12 check (6). -/
def check6 (c : Config) : Bool := decide (2 * maxWords + 1 ≤ c.dataLen)
/-- R12 check (7). -/
def check7 (c : Config) : Bool := c.boundary % rowWords == 0
/-- R12 check (8). -/
def check8 (c : Config) : Bool := c.flashWords % rowWords == 0
/-- R12 check (9). -/
def check9 (c : Config) : Bool := decide (c.boundary ≤ c.flashWords) && decide (c.flashWords ≤ 0x10000)
/-- R12 check (10). -/
def check10 (c : Config) : Bool :=
  if c.dual then c.addrA != c.addrB && (c.addrA &&& c.addrMask) == (c.addrB &&& c.addrMask)
  else c.addrMask == 0x7F
/-- R12 check (11). -/
def check11 (c : Config) : Bool := c.calDefault.length == c.calLen
/-- The eleven codes are pairwise distinct (92_eei_decisions.md D6): no programming code is a runtime code, so in
runtime mode each of the four is unknown (44_command_dispatcher.md R187; log entry 26). -/
def checkCodes (c : Config) : Bool := allDistinct (c.progCodes ++ c.runtimeCodes)
/-- R7: `CAL_LEN` is 14 or 32. -/
def checkCalLen (c : Config) : Bool := c.calLen == 14 || c.calLen == 32
/-- R8: the identity blocks have six bytes. -/
def checkIds (c : Config) : Bool := c.idA.length == 6 && c.idB.length == 6

/-- Every check of R12, with D6's of the two lists of codes together (log entry 26) and the two that the types of R7 and
R8 imply (log entry 21). -/
def wf (c : Config) : Bool :=
  c.check1 && (c.check2 && (c.check3 && (c.check4 && (c.check5 && (c.check6 && (c.check7 && (c.check8 && (c.check9 &&
    (c.check10 && (c.check11 && (c.checkCodes && (c.checkCalLen && c.checkIds))))))))))))

end Config

/-- The operand values each row admits under a configuration: an address that reaches the block (30_encoding.md R77),
an existing register-file index (R108), and, in the two catch-all rows of command codes, a code that no other row
has (R136, R186). -/
def Instr.wf (c : Config) : Instr → Bool
  | .addrW a => c.matchesAddr a
  | .addrR a => c.matchesAddr a
  | .ptr _ => true
  | .wr _ => true
  | .rd => true
  | .stop => true
  | .ovf => true
  | .appwr idx _ => decide (idx.toNat < c.cap)
  | .tick => true
  | .reset => true
  | .wrApp _ => true
  | .wrCal _ => true
  | .wrKey _ => true
  | .wrCmd _ => true
  | .wrCmdp _ => true
  | .wrCustom _ => true
  | .wrId _ => true
  | .wrInvalid _ => true
  | .wrData _ => true
  | .rdApp => true
  | .rdCal => true
  | .rdKey => true
  | .rdId => true
  | .rdCustom => true
  | .rdCmd => true
  | .rdCmdp => true
  | .rdInvalid => true
  | .rdData => true
  | .pcmdErase => true
  | .pcmdWrite => true
  | .pcmdRead => true
  | .pcmdDisable => true
  | .pcmdOther code => !c.progCodes.contains code
  | .paramAddrLo _ => true
  | .paramAddrHi _ => true
  | .paramLen _ => true
  | .paramOther _ => true
  | .dataWrLo _ => true
  | .dataWrHi _ => true
  | .dataWrConfirm _ => true
  | .dataWrOther _ => true
  | .dataRdLo => true
  | .dataRdHi => true
  | .dataRdCsum => true
  | .dataRdOther => true
  | .rcmdProgEn => true
  | .rcmdCfgEn => true
  | .rcmdCfgDis => true
  | .rcmdCalLoad => true
  | .rcmdCalStore => true
  | .rcmdCalDefault => true
  | .rcmdEncEn => true
  | .rcmdOther code => !c.runtimeCodes.contains code

end Sys2Proof
end

