-- ==== Sys2Proof/Decode.lean ====
section
/-! DEFINITION. The decoder: a slot (the selector of the opcode table that the state picks) and the bytes it carries
give one instruction, or a rejection by name; then the encoder, from the same formats (30_encoding.md). -/

namespace Sys2Proof

/-- Why bytes are no instruction. -/
inductive DecodeError where
  /-- The slot does not carry this number of bytes (R57, R71: one byte or none). -/
  | wrongByteCount
  /-- The ADDRESS byte names another device (R77). -/
  | notAddressed
deriving DecidableEq, Repr

/-- ADDRESS bits `[7:1]`: the device address (R72). -/
def addressField (b : Byte) : BusAddr := b.extractLsb' 1 7

/-- ADDRESS bit `[0]`: true for a read (R72). -/
def readBit (b : Byte) : Bool := b.getLsbD 0

/-- The ADDRESS byte `(a << 1) OR rw` (R72). -/
def addressByte (a : BusAddr) (rw : Bool) : Byte := a ++ BitVec.ofBool rw

/-- ADDRESS: rows ADDR_W and ADDR_R. -/
def decodeAddress (c : Config) (b : Byte) : Except DecodeError Instr :=
  if c.matchesAddr (addressField b) then
    .ok (if readBit b then .addrR (addressField b) else .addrW (addressField b))
  else .error .notAddressed

/-- CMD_BYTE in programming mode (R88, 42_programming_session.md R131). -/
def decodeProgCommand (c : Config) (b : Byte) : Instr :=
  if b = c.cErase then .pcmdErase
  else if b = c.cWrite then .pcmdWrite
  else if b = c.cRead then .pcmdRead
  else if b = c.cDisable then .pcmdDisable
  else .pcmdOther b

/-- CMD_BYTE of runtime mode, as found in `pend` (R89, 44_command_dispatcher.md R178). The
programming codes are none of the seven, so they are unknown here (R187, log entry 26). -/
def decodeRuntimeCommand (c : Config) (b : Byte) : Instr :=
  if b = c.cProgEn then .rcmdProgEn
  else if b = c.cCfgEn then .rcmdCfgEn
  else if b = c.cCfgDis then .rcmdCfgDis
  else if b = c.cCalLoad then .rcmdCalLoad
  else if b = c.cCalStore then .rcmdCalStore
  else if b = c.cCalDefault then .rcmdCalDefault
  else if b = c.cEncEn then .rcmdEncEn
  else .rcmdOther b

/-- The row of a byte written in a region (41_register_access.md R111 to R119). -/
def decodeRegWrite (b : Byte) : Region → Instr
  | .app => .wrApp b
  | .cal => .wrCal b
  | .key => .wrKey b
  | .cmd => .wrCmd b
  | .cmdp => .wrCmdp b
  | .custom => .wrCustom b
  | .id => .wrId b
  | .invalid => .wrInvalid b
  | .data => .wrData b

/-- The row of a byte read from a region (R121 to R128). -/
def decodeRegRead : Region → Instr
  | .app => .rdApp
  | .cal => .rdCal
  | .key => .rdKey
  | .cmd => .rdCmd
  | .cmdp => .rdCmdp
  | .custom => .rdCustom
  | .id => .rdId
  | .invalid => .rdInvalid
  | .data => .rdData

/-- The row of a parameter byte (42_programming_session.md R137). -/
def decodeParam (b : Byte) : ParamRole → Instr
  | .addrLo => .paramAddrLo b
  | .addrHi => .paramAddrHi b
  | .len => .paramLen b
  | .other => .paramOther b

/-- The row of a data-channel write (R147). -/
def decodeChanWrite (b : Byte) : ChanWrite → Instr
  | .lo => .dataWrLo b
  | .hi => .dataWrHi b
  | .confirm => .dataWrConfirm b
  | .other => .dataWrOther b

/-- The row of a data-channel read (R152). -/
def decodeChanRead : ChanRead → Instr
  | .lo => .dataRdLo
  | .hi => .dataRdHi
  | .csum => .dataRdCsum
  | .other => .dataRdOther

/-- The one byte of a slot that carries a byte. -/
def oneByte (bytes : List Byte) (f : Byte → Except DecodeError Instr) : Except DecodeError Instr :=
  match bytes with
  | [b] => f b
  | _ => .error .wrongByteCount

/-- No byte, for a slot that carries none (R71: STOP, OVF, TICK and RESET; a read request). -/
def noByte (bytes : List Byte) (i : Instr) : Except DecodeError Instr :=
  match bytes with
  | [] => .ok i
  | _ => .error .wrongByteCount

/-- The instruction that the bytes of a slot are, total on every slot and every byte string. -/
def decode (c : Config) (slot : Slot) (bytes : List Byte) : Except DecodeError Instr :=
  match slot with
  | .address => oneByte bytes (decodeAddress c)
  | .pointer => oneByte bytes (fun b => .ok (.ptr b))
  | .write => oneByte bytes (fun b => .ok (.wr b))
  | .read => noByte bytes .rd
  | .stop => noByte bytes .stop
  | .ovf => noByte bytes .ovf
  | .appwr idx => oneByte bytes (fun b => .ok (.appwr idx b))
  | .tick => noByte bytes .tick
  | .reset => noByte bytes .reset
  | .regWrite g => oneByte bytes (fun b => .ok (decodeRegWrite b g))
  | .regRead g => noByte bytes (decodeRegRead g)
  | .progCommand => oneByte bytes (fun b => .ok (decodeProgCommand c b))
  | .param p => oneByte bytes (fun b => .ok (decodeParam b p))
  | .chanWrite w => oneByte bytes (fun b => .ok (decodeChanWrite b w))
  | .chanRead r => noByte bytes (decodeChanRead r)
  | .pending => oneByte bytes (fun b => .ok (decodeRuntimeCommand c b))

/-! ### The encoder -/

/-- The slot and the bytes of an instruction (30_encoding.md R71 to R73, R88, R89). -/
def encode (c : Config) : Instr → Slot × List Byte
  | .addrW a => (.address, [addressByte a false])
  | .addrR a => (.address, [addressByte a true])
  | .ptr r => (.pointer, [r])
  | .wr d => (.write, [d])
  | .rd => (.read, [])
  | .stop => (.stop, [])
  | .ovf => (.ovf, [])
  | .appwr idx b => (.appwr idx, [b])
  | .tick => (.tick, [])
  | .reset => (.reset, [])
  | .wrApp d => (.regWrite .app, [d])
  | .wrCal d => (.regWrite .cal, [d])
  | .wrKey d => (.regWrite .key, [d])
  | .wrCmd d => (.regWrite .cmd, [d])
  | .wrCmdp d => (.regWrite .cmdp, [d])
  | .wrCustom d => (.regWrite .custom, [d])
  | .wrId d => (.regWrite .id, [d])
  | .wrInvalid d => (.regWrite .invalid, [d])
  | .wrData d => (.regWrite .data, [d])
  | .rdApp => (.regRead .app, [])
  | .rdCal => (.regRead .cal, [])
  | .rdKey => (.regRead .key, [])
  | .rdId => (.regRead .id, [])
  | .rdCustom => (.regRead .custom, [])
  | .rdCmd => (.regRead .cmd, [])
  | .rdCmdp => (.regRead .cmdp, [])
  | .rdInvalid => (.regRead .invalid, [])
  | .rdData => (.regRead .data, [])
  | .pcmdErase => (.progCommand, [c.cErase])
  | .pcmdWrite => (.progCommand, [c.cWrite])
  | .pcmdRead => (.progCommand, [c.cRead])
  | .pcmdDisable => (.progCommand, [c.cDisable])
  | .pcmdOther code => (.progCommand, [code])
  | .paramAddrLo p => (.param .addrLo, [p])
  | .paramAddrHi p => (.param .addrHi, [p])
  | .paramLen p => (.param .len, [p])
  | .paramOther p => (.param .other, [p])
  | .dataWrLo d => (.chanWrite .lo, [d])
  | .dataWrHi d => (.chanWrite .hi, [d])
  | .dataWrConfirm d => (.chanWrite .confirm, [d])
  | .dataWrOther d => (.chanWrite .other, [d])
  | .dataRdLo => (.chanRead .lo, [])
  | .dataRdHi => (.chanRead .hi, [])
  | .dataRdCsum => (.chanRead .csum, [])
  | .dataRdOther => (.chanRead .other, [])
  | .rcmdProgEn => (.pending, [c.cProgEn])
  | .rcmdCfgEn => (.pending, [c.cCfgEn])
  | .rcmdCfgDis => (.pending, [c.cCfgDis])
  | .rcmdCalLoad => (.pending, [c.cCalLoad])
  | .rcmdCalStore => (.pending, [c.cCalStore])
  | .rcmdCalDefault => (.pending, [c.cCalDefault])
  | .rcmdEncEn => (.pending, [c.cEncEn])
  | .rcmdOther code => (.pending, [code])

/-! ### The opcode table's own bit strings

A row of the table is at most one byte, and many rows admit the same byte: only the state's slot tells them apart.
The rows whose byte the table fixes come first, then the row of the byte that follows an address (DESIGN CHOICE,
log entry 14). -/

/-- The slot in which a byte of the opcode table is read. -/
def tableSlot (c : Config) (b : Byte) : Slot :=
  if c.matchesAddr (addressField b) then .address
  else if c.progCodes.contains b then .progCommand
  else if c.runtimeCodes.contains b then .pending
  else .pointer

/-- The instruction the decoder reads from a bit string of the opcode table, under the reference configuration the
table is written for. A row without bits carries no byte: the main loop's pass. -/
def decodeTableWord (nbits w : Nat) : Option Instr :=
  match nbits with
  | 0 => some .tick
  | 8 => (decode Config.reference (tableSlot Config.reference (BitVec.ofNat 8 w)) [BitVec.ofNat 8 w]).toOption
  | _ => none

end Sys2Proof
end

