-- ==== Sys2Proof/Machine/State.lean ====
section
/-! DEFINITION. The state of the block (10_state.md R17 to R47) as plain data, the reasons a step can stop, and the
state right after reset (70_reset_and_hazards.md R214, R215). -/

namespace Sys2Proof.Machine

open Sys2Proof

/-- The device identity of the current transaction (R23). -/
inductive Dev where
  | none | a | b
deriving DecidableEq, Repr

/-- The direction of the current transaction (R24). -/
inductive Dir where
  | none | w | r
deriving DecidableEq, Repr

/-- The session phases (R32). -/
inductive Phase where
  | idle | addrLo | addrHi | len | data | csumOut | awaitConfirm | writeReady | eraseReady
deriving DecidableEq, Repr

/-- The command of the session (R33). -/
inductive SesCmd where
  | none | erase | write | read
deriving DecidableEq, Repr

/-- The session record (R33). -/
structure Session where
  phase : Phase
  cmd : SesCmd
  addrLo : Byte
  waddr : Word
  nwords : Nat
  buf : List Word
  idx : Nat
  hi : Bool
  lo : Byte
  acc : Byte
  csum : Byte
deriving DecidableEq, Repr

/-- `IDLE_SES` (R35). -/
def Session.idle : Session where
  phase := .idle
  cmd := .none
  addrLo := 0
  waddr := 0
  nwords := 0
  buf := List.replicate maxWords 0
  idx := 0
  hi := false
  lo := 0
  acc := 0
  csum := 0

/-- Whose the transaction on the bus is: what the peripheral knows and the block's own flags do not say. -/
inductive Traffic where
  /-- What the block's flags say it is: the block's, or none. -/
  | ours
  /-- Another device's: only its STOP is delivered (30_encoding.md R77, 40_bus_front_end.md R110). -/
  | foreign
  /-- The block's write transaction, cut by a RESET: it goes on on the bus, and its remaining bytes are ignored until
  the next ADDR (70_reset_and_hazards.md R214). -/
  | cutWrite
  /-- The block's read transaction, cut by a RESET (R214). -/
  | cutRead
deriving DecidableEq, Repr

/-- One word of the flash: its word address and its value (R45, 20_memory.md R51). -/
abbrev FlashCell := Nat × Word

/-- The output records (R46). -/
inductive Output where
  | hostRead (b : Byte)
  | eraseRow (ra : Nat)
  | writeRow (wa : Nat) (words : List Word) (n : Nat)
  | readWords (wa : Nat) (n : Nat)
  | persist (block : List Byte)
  | restore
  | deriveKey (key : List Byte) (ok : Bool)
  | exitProgramming
  | reset
deriving DecidableEq, Repr

/-- Why the machine stops with a fault. The block itself has none (60_exceptions.md R193). -/
inductive Fault where
  /-- Raised by APPWR with an index at or past `CAP`: R108 has no such register-file byte. Safe: the model stops where
  the spec gives no behaviour. -/
  | noSuchRegister (idx : Nat)
deriving DecidableEq, Repr

/-- Why the machine has no move. -/
inductive Refusal where
  /-- Raised by `exec` for an instruction that has no meaning yet. Safe. -/
  | notModelled (mnemonic : String)
  /-- Raised by `step` for a configuration that breaks a check of 00_scope.md R12, which a model must refuse. Safe. -/
  | badConfig
  /-- Raised by WR outside a write transaction and RD outside a read transaction: the host is assumed never to produce
  it (30_encoding.md R76, "no move"). Safe: nothing is claimed of such a host. -/
  | hostGrammar
  /-- Raised by a row executed in a state in which the row's selector (spec/opcode_table.json) does not hold, so that
  the event is not that row's. `step` selects a row whose selector holds, so it never meets this. Safe. -/
  | notThisRow
  /-- Raised by `step` for bytes that are no instruction of their slot; no input gives such bytes. Safe. -/
  | undecoded (e : DecodeError)
deriving DecidableEq, Repr

/-- The state: the record of R17, then four fields of the model's own (`cfg`, `inbox`, `bus`, `draws`). -/
structure State where
  /-- The configuration (R7 to R12): the model's own field, changed by no step (log entry 3). -/
  cfg : Config
  /-- The register file (R18), `CAP` bytes. -/
  rf : List Byte
  /-- The cursor (R22). -/
  ptr : Byte
  /-- The identity of the transaction (R23). -/
  dev : Dev
  /-- The direction of the transaction (R24). -/
  dir : Dir
  /-- The address-phase flag (R25). -/
  expectPtr : Bool
  /-- The pending overflow condition (R26). -/
  ovf : Bool
  /-- Programming mode (R27). -/
  progMode : Bool
  /-- Raw-passthrough configuration mode, an output (R28). -/
  cfgMode : Bool
  /-- The transform key (R29). -/
  xkey : Option (List Byte)
  /-- The pending runtime command (R30). -/
  pend : Option Byte
  /-- The programming session (R33). -/
  ses : Session
  /-- The words of the program flash that have been written (R45): word cells, addresses strictly rising. An unlisted
  word still holds its initial draw (20_memory.md R52, log entry 7). -/
  flash : List FlashCell
  /-- The durable calibration store (R45), `CAL_LEN` bytes. -/
  calStore : List Byte
  /-- The outputs so far, oldest first (R46). -/
  outLog : List Output
  /-- The inputs still to come, oldest first: the model's own field (log entry 1). -/
  inbox : List Event
  /-- Whose the transaction on the bus is (R77, R110, R214): the model's own field (log entry 15). -/
  bus : Traffic
  /-- The number of free draws taken: the model's own field (log entry 5). -/
  draws : Nat
deriving DecidableEq, Repr

/-- `n` free bytes, from draw number `k` on (10_state.md R20, 20_memory.md R52). -/
def freeBytes (k n : Nat) : List Byte := (List.range n).map (fun i => Config.freeByte (k + i))

/-- The machine right after its first reset (R215), in the reference configuration. The register file and the
calibration store hold free bytes; the flash lists nothing, so every word holds its initial draw (log entry 7). -/
def State.reset : State where
  cfg := Config.reference
  rf := freeBytes 0 256
  ptr := 0x00
  dev := .none
  dir := .none
  expectPtr := false
  ovf := false
  progMode := false
  cfgMode := false
  xkey := none
  pend := none
  ses := Session.idle
  flash := []
  calStore := freeBytes 256 14
  outLog := [.reset]
  inbox := []
  bus := .ours
  draws := 270

end Sys2Proof.Machine
end

