-- ==== Sys2Proof/Machine/Flags.lean ====
section
/-! DEFINITION. The block has no arithmetic flags (10_state.md R31); what stands in their place is here: the checksum
arithmetic of the session and the gate of the bus front-end. -/

namespace Sys2Proof.Machine

open Sys2Proof

/-- The running sum modulo 256 after more bytes (R33 `acc`). -/
def accumulate (acc : Byte) (bytes : List Byte) : Byte := bytes.foldl (· + ·) acc

/-- The two's-complement checksum of an accumulator (42_programming_session.md R150). -/
def checksumOf (acc : Byte) : Byte := -acc

/-- `Gate()` (40_bus_front_end.md R96). -/
def gate (s : State) : Bool := s.dev != .none && !s.ovf

end Sys2Proof.Machine
end

