-- ==== Sys2Proof/Machine/Operands.lean ====
section
/-! DEFINITION. Operand forms: the device identity, register addresses and their regions, the cursor's advance, the
address and length operands of the session, and the transform (spec 10, 30, 40, 41). -/

namespace Sys2Proof.Machine

open Sys2Proof

/-- `Identify(a)` (40_bus_front_end.md R95). -/
def identify (c : Config) (a : BusAddr) : Dev :=
  if !c.dual then .a
  else if a = c.addrA then .a
  else if a = c.addrB then .b
  else .none

/-- `half(dev)` (10_state.md R23). -/
def half : Dev → Nat
  | .b => 1
  | .a => 0
  | .none => 0

/-- The register-file index of a register address in a half (R18, 41_register_access.md R130). -/
def rfIndex (h : Nat) (r : Byte) : Nat := h * 256 + r.toNat

/-- The register-file index the current transaction reaches (R130). -/
def State.rfIndex (s : State) : Nat := Sys2Proof.Machine.rfIndex (half s.dev) s.ptr

/-- `r` lies in the range of `len` addresses from `base`. -/
def inRange (base len : Nat) (r : Byte) : Bool := decide (base ≤ r.toNat) && decide (r.toNat < base + len)

/-- `RegionOf(pm, r)` (10_state.md R38). -/
def regionOf (c : Config) (pm : Bool) (r : Byte) : Region :=
  if r.toNat = c.cmdReg then .cmd
  else if inRange (c.cmdReg + 1) 3 r then .cmdp
  else if r.toNat = c.customReg then .custom
  else if inRange c.idBase 6 r then .id
  else if pm && inRange c.dataBase c.dataLen r then .data
  else if !pm && inRange c.appBase c.appLen r then .app
  else if !pm && inRange c.calBase c.calLen r then .cal
  else if !pm && inRange c.keyBase 16 r then .key
  else .invalid

/-- The region the cursor stands in. -/
def State.region (s : State) : Region := regionOf s.cfg s.progMode s.ptr

/-- `NextW(r)` (40_bus_front_end.md R101). -/
def nextW (r : Byte) : Byte := r + 1

/-- `NextR(r)` (R100): the identity range cycles. -/
def nextR (c : Config) (pm : Bool) (r : Byte) : Byte :=
  if regionOf c pm r = .id ∧ r.toNat = c.idBase + 5 then BitVec.ofNat 8 c.idBase else r + 1

/-- `{h, l}` (00_scope.md R13). -/
def joinBytes (h l : Byte) : Word := h ++ l

/-- The low byte of a word (R86). -/
def lowByte (w : Word) : Byte := w.extractLsb' 0 8

/-- The high byte of a word (R86). -/
def highByte (w : Word) : Byte := w.extractLsb' 8 8

/-- The word address of a 16-bit byte address (30_encoding.md R84): the one conversion between the two. -/
def wordAddress (baddr : Word) : Word := baddr >>> 1

/-- The word count of a length byte (R85). -/
def wordCount (len : Byte) : Nat := min (len.toNat / 2) maxWords

/-- The connected `ENCODE` (00_scope.md R11). -/
def encodeByte (c : Config) (key : List Byte) (r b : Byte) : Byte :=
  match c.collaborators with
  | .external => Config.encode key r b
  | .testVectors => b ^^^ key.getD (r.toNat % 16) 0

/-- The connected `DECODE` (R11). -/
def decodeByte (c : Config) (key : List Byte) (r b : Byte) : Byte :=
  match c.collaborators with
  | .external => Config.decode key r b
  | .testVectors => b ^^^ key.getD (r.toNat % 16) 0

/-- The connected `DERIVE_KEY` (R11). -/
def deriveKeyOk (c : Config) (key : List Byte) : Bool :=
  match c.collaborators with
  | .external => Config.deriveKey key
  | .testVectors => key != List.replicate 16 0

/-- `XformIn(r, b)` (41_register_access.md R120). -/
def xformIn (s : State) (r b : Byte) : Byte :=
  if s.progMode then b
  else match s.xkey with
    | some k => decodeByte s.cfg k r b
    | none => b

/-- `XformOut(r, b)` (R120). -/
def xformOut (s : State) (r b : Byte) : Byte :=
  if s.progMode then b
  else match s.xkey with
    | some k => encodeByte s.cfg k r b
    | none => b

/-- What a parameter byte means in a phase (42_programming_session.md R137, R146). -/
def paramRole : Phase → ParamRole
  | .addrLo => .addrLo
  | .addrHi => .addrHi
  | .len => .len
  | .idle => .other
  | .data => .other
  | .csumOut => .other
  | .awaitConfirm => .other
  | .writeReady => .other
  | .eraseReady => .other

/-- What a data-channel write means in a session (R147). -/
def chanWriteRole (x : Session) : ChanWrite :=
  if x.phase = .data ∧ x.cmd = .write then (if x.hi then .hi else .lo)
  else if x.phase = .awaitConfirm then .confirm
  else .other

/-- What a data-channel read means in a session (R152). -/
def chanReadRole (x : Session) : ChanRead :=
  if x.phase = .data ∧ x.cmd = .read then (if x.hi then .hi else .lo)
  else if x.phase = .csumOut then .csum
  else .other

end Sys2Proof.Machine
end

