-- ==== Sys2Proof/Machine/Ops.lean ====
section
/-! DEFINITION. The named operations over the state: field updates, the register file, the flash memory, the
collaborator calls (20_memory.md R65 to R69), the row guard, the cursor's advance after an access, and reset. The
block raises no exception (60_exceptions.md R193), so there is no exception entry and no return among them. -/

namespace Sys2Proof.Machine

open Sys2Proof

/-- The outcome of an instruction. -/
abbrev Out := Host.Outcome State Fault Refusal

/-! ### Field updates -/

/-- `signal o` (00_scope.md R14): append a record to the output log. -/
def State.signal (s : State) (o : Output) : State := { s with outLog := s.outLog ++ [o] }

/-- `ptr <- r`. -/
def State.setPtr (s : State) (r : Byte) : State := { s with ptr := r }

/-- `ses <- x`. -/
def State.setSes (s : State) (x : Session) : State := { s with ses := x }

/-- `rf <- bytes`. -/
def State.setRf (s : State) (bytes : List Byte) : State := { s with rf := bytes }

/-- `pend <- p`. -/
def State.setPend (s : State) (p : Option Byte) : State := { s with pend := p }

/-- `progMode <- m`. -/
def State.setProgMode (s : State) (m : Bool) : State := { s with progMode := m }

/-- `cfgMode <- m`. -/
def State.setCfgMode (s : State) (m : Bool) : State := { s with cfgMode := m }

/-- `xkey <- k`. -/
def State.setXkey (s : State) (k : Option (List Byte)) : State := { s with xkey := k }

/-- `flash <- m`. -/
def State.setFlash (s : State) (m : List FlashCell) : State := { s with flash := m }

/-- `calStore <- block`. -/
def State.setCalStore (s : State) (block : List Byte) : State := { s with calStore := block }

/-- The draw counter after `n` more draws. -/
def State.takeDraws (s : State) (n : Nat) : State := { s with draws := s.draws + n }

/-- The transaction flags of R23 to R25. -/
def State.setTransaction (s : State) (d : Dev) (x : Dir) (e : Bool) : State :=
  { s with dev := d, dir := x, expectPtr := e }

/-- `ovf <- v`. -/
def State.setOvf (s : State) (v : Bool) : State := { s with ovf := v }

/-! ### Register file -/

/-- `rf[i]` (00_scope.md R14). An index at or past `CAP` occurs in no state that keeps the invariant (log entry 19). -/
def State.rfByte (s : State) (i : Nat) : Byte := s.rf.getD i 0

/-- `rf[i] <- b`. -/
def State.rfWrite (s : State) (i : Nat) (b : Byte) : State := s.setRf (s.rf.set i b)

/-- `rf[a .. a+n-1]` as a block. -/
def State.rfBlock (s : State) (a n : Nat) : List Byte := (List.range n).map (fun i => s.rfByte (a + i))

/-- The bytes with `vs` stored from index `a` on. -/
def storeBytes (bytes : List Byte) (a : Nat) : List Byte → List Byte
  | [] => bytes
  | v :: vs => storeBytes (bytes.set a v) (a + 1) vs

/-- `for i: rf[a + i] <- vs[i]`. -/
def State.rfStore (s : State) (a : Nat) (vs : List Byte) : State := s.setRf (storeBytes s.rf a vs)

/-! ### Flash memory

The words that have been written, as (word address, word) pairs in one canonical form: addresses strictly rising. An
unlisted word has no listed value: it holds its initial draw, of which nothing is known (log entries 7 and 8). -/

/-- The listed value of a word, if it has one. -/
def flashGet : List FlashCell → Nat → Option Word
  | [], _ => none
  | (k, v) :: m, a => if k = a then some v else flashGet m a

/-- The cells of consecutive words from address `a` on. -/
def cellsFrom (a : Nat) : List Word → List FlashCell
  | [] => []
  | w :: ws => (a, w) :: cellsFrom (a + 1) ws

/-- The cells with the words `ws` stored from address `a` on: those below the range, the words, those past it. -/
def flashStore (m : List FlashCell) (a : Nat) (ws : List Word) : List FlashCell :=
  m.filter (fun c => decide (c.1 < a)) ++ cellsFrom a ws ++ m.filter (fun c => decide (a + ws.length ≤ c.1))

/-- What an unlisted flash word reads as: its initial draw, within the bits the flash keeps (10_state.md R45,
20_memory.md R52). -/
def unwrittenWord (c : Config) (a : Nat) : Word := Config.initialFlash a &&& c.wordMask

/-- The word at address `a`. -/
def flashRead (c : Config) (m : List FlashCell) (a : Nat) : Word := (flashGet m a).getD (unwrittenWord c a)

/-- The canonical form of a flash of `n` words: addresses strictly rising from `lo` on and below `n`, values within
the word mask (R45). An unlisted word has no value of its own, so no cell can equal it. -/
def flashWfFrom (c : Config) (lo : Nat) : List FlashCell → Bool
  | [] => true
  | (k, v) :: m =>
    decide (lo ≤ k) && decide (k < c.flashWords) && (v &&& ~~~c.wordMask) == 0 && flashWfFrom c (k + 1) m

/-- The canonical form holds (`Memory.wf`). -/
def Memory.wf (s : State) : Bool := flashWfFrom s.cfg 0 s.flash

/-- `flash[a]`. -/
def State.flashWord (s : State) (a : Nat) : Word := flashRead s.cfg s.flash a

/-- The value a word takes when `w` is written over `old` (20_memory.md R66). -/
def programmedWord (c : Config) (old w : Word) : Word :=
  match c.flashWriteMode with
  | .overwrite => w &&& c.wordMask
  | .and => old &&& (w &&& c.wordMask)

/-- The values that the words from address `a` on take when `ws` is written over them (R66). -/
def programmedWords (c : Config) (m : List FlashCell) (a : Nat) : List Word → List Word
  | [] => []
  | w :: ws => programmedWord c (flashRead c m a) w :: programmedWords c m (a + 1) ws

/-- A row of erased words (R65). -/
def erasedRow (c : Config) : List Word := List.replicate rowWords (c.erasedWord &&& c.wordMask)

/-! ### Collaborator calls -/

/-- `MemErase(ra)` (R65). -/
def memErase (ra : Nat) (s : State) : State :=
  (s.signal (.eraseRow ra)).setFlash (flashStore s.flash ra (erasedRow s.cfg))

/-- `MemWrite(wa, n, words)` with `n` the number of words (R66). -/
def memWrite (wa : Nat) (words : List Word) (s : State) : State :=
  (s.signal (.writeRow wa words words.length)).setFlash (flashStore s.flash wa (programmedWords s.cfg s.flash wa words))

/-- Word `wa + i` as `MemRead` gives it: a free draw past the end of the flash (R67). -/
def readWord (s : State) (a : Nat) : Word :=
  if a < s.cfg.flashWords then s.flashWord a else Config.freeWord (s.draws + (a - s.cfg.flashWords))

/-- The words of `MemRead(wa, n)` (R67). -/
def readWords (s : State) (wa n : Nat) : List Word := (List.range n).map (fun i => readWord s (wa + i))

/-- The state after `MemRead(wa, n)` (R67): the log record, and one draw taken per word past the end. -/
def memRead (wa n : Nat) (s : State) : State :=
  (s.signal (.readWords wa n)).takeDraws (wa + n - s.cfg.flashWords)

/-- `persist(block)` (R68). -/
def persist (block : List Byte) (s : State) : State := (s.signal (.persist block)).setCalStore block

/-- `restore()` (R68): the block of `CAL_LEN` bytes. -/
def restored (s : State) : List Byte := (List.range s.cfg.calLen).map (fun i => s.calStore.getD i 0)

/-! ### Rows and accesses -/

/-- A row's outcome: its effect where its selector holds (log entry 12). -/
def rowWhen (selected : Bool) (t : State) : Out := if selected then .next t else .refused .notThisRow

/-- The next WR event is a data write at region `g`: gate open, write transaction, pointer byte already taken
(40_bus_front_end.md R96 to R98, 30_encoding.md R76). -/
def writesAt (s : State) (g : Region) : Bool :=
  gate s && s.dir == .w && !s.expectPtr && s.region == g

/-- The next RD event reads region `g` (R96, R99, R76). -/
def readsAt (s : State) (g : Region) : Bool := gate s && s.dir == .r && s.region == g

/-- After a write handler, the cursor advances by NextW from where the write was (R98, R101). -/
def afterWrite (s t : State) : State := t.setPtr (nextW s.ptr)

/-- After a read handler, the cursor advances by NextR from where the read was, and the byte is delivered (R99, R100). -/
def afterRead (s : State) (out : Byte × State) : State :=
  (out.2.setPtr (nextR s.cfg s.progMode s.ptr)).signal (.hostRead out.1)

/-! ### Reset -/

/-- Whose the transaction on the bus is after a RESET: the block's own goes on, cut, in the direction it has (R214; log
entry 15). -/
def Traffic.afterReset : Traffic → Dir → Traffic
  | .ours, .w => .cutWrite
  | .ours, .r => .cutRead
  | t, _ => t

/-- The RESET event (70_reset_and_hazards.md R214): `rf` takes free bytes; flash and calibration store stay (R216). -/
def resetBlock (s : State) : State :=
  { s with
    rf := freeBytes s.draws s.cfg.cap
    draws := s.draws + s.cfg.cap
    ptr := 0x00
    dev := .none
    dir := .none
    expectPtr := false
    ovf := false
    progMode := !s.cfg.runtime
    cfgMode := false
    xkey := none
    pend := none
    ses := Session.idle
    outLog := s.outLog ++ [.reset]
    bus := s.bus.afterReset s.dir }

end Sys2Proof.Machine
end

