-- ==== Sys2Proof/Machine/Session.lean ====
section
/-! DEFINITION. The flash-programming session (42_programming_session.md): its three entry points as the spec writes
them, and the meaning of the rows PCMD_…, PARAM_… and DATA_…. -/

namespace Sys2Proof.Machine

open Sys2Proof

/-! ### Command bytes (R131 to R136) -/

/-- `FRESH(c)` (10_state.md R35). -/
def freshSession (c : SesCmd) : Session := { Session.idle with phase := .addrLo, cmd := c }

/-- `DoDisable()` (R134). -/
def doDisable (s : State) : State :=
  ((s.setSes Session.idle).signal .exitProgramming).setProgMode (if s.cfg.runtime then false else s.progMode)

/-- `SessCommand(b)` (R131). -/
def sessCommand (b : Byte) (s : State) : State :=
  if b = s.cfg.cErase then s.setSes (freshSession .erase)
  else if b = s.cfg.cWrite then s.setSes (freshSession .write)
  else if b = s.cfg.cRead then s.setSes (freshSession .read)
  else if b = s.cfg.cDisable then doDisable s
  else s.setSes Session.idle

/-! ### Parameter bytes (R137 to R146) -/

/-- `ParamAddrLo(b)` (R138). -/
def paramAddrLo (b : Byte) (s : State) : State := s.setSes { s.ses with addrLo := b, phase := .addrHi }

/-- `ParamAddrHi(b)` (R139, R140). -/
def paramAddrHi (b : Byte) (s : State) : State :=
  let x := { s.ses with
    acc := accumulate s.ses.acc [s.ses.addrLo, b]
    waddr := wordAddress (joinBytes b s.ses.addrLo) }
  if s.cfg.flashWords ≤ x.waddr.toNat then s.setSes Session.idle
  else if x.cmd = .erase then s.setSes { x with phase := .eraseReady }
  else s.setSes { x with phase := .len }

/-- `Finalize()` (R150). -/
def finalizeSession (x : Session) : Session := { x with csum := checksumOf x.acc, phase := .csumOut }

/-- The end of `ParamLen`: no data phase for a zero length (R142), else `DATA` (R143, R144). -/
def beginData (x : Session) : Session := if x.nwords = 0 then finalizeSession x else { x with phase := .data }

/-- `ParamLen(b)` (R141), with the inline flash read of a READ (R145). -/
def paramLen (b : Byte) (s : State) : State :=
  let x := { s.ses with acc := accumulate s.ses.acc [b], nwords := wordCount b, idx := 0, hi := false }
  if x.cmd = .read then
    (memRead x.waddr.toNat x.nwords s).setSes
      (beginData { x with buf := readWords s x.waddr.toNat x.nwords ++ x.buf.drop x.nwords })
  else s.setSes (beginData x)

/-- `SessParam(b)` (R137). -/
def sessParam (b : Byte) (s : State) : State :=
  match paramRole s.ses.phase with
  | .addrLo => paramAddrLo b s
  | .addrHi => paramAddrHi b s
  | .len => paramLen b s
  | .other => s

/-! ### Data-channel writes (R147 to R151) -/

/-- `DataLow(b)` (R148). -/
def dataLow (b : Byte) (s : State) : State := s.setSes { s.ses with lo := b, hi := true }

/-- The end of a data word: finalize after the last one (R149, R154). -/
def endWord (x : Session) : Session := if x.idx = x.nwords then finalizeSession x else x

/-- `DataHigh(b)` (R149). -/
def dataHigh (b : Byte) (s : State) : State :=
  s.setSes (endWord { s.ses with
    buf := s.ses.buf.set s.ses.idx (joinBytes b s.ses.lo)
    acc := accumulate s.ses.acc [s.ses.lo, b]
    idx := s.ses.idx + 1
    hi := false })

/-- `Confirm(b)` (R151). -/
def confirmWrite (b : Byte) (s : State) : State :=
  if b = s.cfg.cWrite then s.setSes { s.ses with phase := .writeReady } else s.setSes Session.idle

/-- `SessDataWrite(b)` (R147). -/
def sessDataWrite (b : Byte) (s : State) : State :=
  match chanWriteRole s.ses with
  | .lo => dataLow b s
  | .hi => dataHigh b s
  | .confirm => confirmWrite b s
  | .other => s

/-! ### Data-channel reads (R152 to R156) -/

/-- The buffered word the next read byte belongs to. -/
def Session.word (x : Session) : Word := x.buf.getD x.idx 0

/-- `ReadLow()` (R153). -/
def readLow (s : State) : Byte × State := (lowByte s.ses.word, s.setSes { s.ses with hi := true })

/-- `ReadHigh()` (R154). -/
def readHigh (s : State) : Byte × State :=
  (highByte s.ses.word,
    s.setSes (endWord { s.ses with
      acc := accumulate s.ses.acc [lowByte s.ses.word, highByte s.ses.word]
      idx := s.ses.idx + 1
      hi := false }))

/-- `ServeChecksum()` (R155 for a READ, R156 for a WRITE). -/
def serveChecksum (s : State) : Byte × State :=
  (s.ses.csum,
    if s.ses.cmd = .write then
      match s.cfg.writeCommit with
      | .afterChecksum => s.setSes { s.ses with phase := .writeReady }
      | .afterConfirm => s.setSes { s.ses with phase := .awaitConfirm }
    else s.setSes Session.idle)

/-- `SessDataRead()` (R152). -/
def sessDataRead (s : State) : Byte × State :=
  match chanReadRole s.ses with
  | .lo => readLow s
  | .hi => readHigh s
  | .csum => serveChecksum s
  | .other => (sentinel, s)

/-! ### The rows -/

/-- A command byte reaches the session: WR at the command register in programming mode. -/
def commandsSession (s : State) : Bool := writesAt s .cmd && s.progMode

/-- A parameter byte of the given meaning reaches the session: WR at a parameter register in programming mode. -/
def paramsSession (s : State) (p : ParamRole) : Bool :=
  writesAt s .cmdp && s.progMode && paramRole s.ses.phase == p

/-- A data-channel write of the given meaning reaches the session. -/
def channelWrites (s : State) (w : ChanWrite) : Bool := writesAt s .data && chanWriteRole s.ses == w

/-- A data-channel read of the given meaning reaches the session. -/
def channelReads (s : State) (r : ChanRead) : Bool := readsAt s .data && chanReadRole s.ses == r

/-- PCMD_ERASE (R132). -/
def execPcmdErase (s : State) : Out :=
  rowWhen (commandsSession s) (afterWrite s (s.setSes (freshSession .erase)))

/-- PCMD_WRITE (R133). -/
def execPcmdWrite (s : State) : Out :=
  rowWhen (commandsSession s) (afterWrite s (s.setSes (freshSession .write)))

/-- PCMD_READ (R135). -/
def execPcmdRead (s : State) : Out :=
  rowWhen (commandsSession s) (afterWrite s (s.setSes (freshSession .read)))

/-- PCMD_DISABLE (R134). -/
def execPcmdDisable (s : State) : Out := rowWhen (commandsSession s) (afterWrite s (doDisable s))

/-- PCMD_OTHER (R136): a byte that is none of the four codes. -/
def execPcmdOther (code : Byte) (s : State) : Out :=
  rowWhen (commandsSession s && !s.cfg.progCodes.contains code) (afterWrite s (s.setSes Session.idle))

/-- PARAM_ADDR_LO (R138). -/
def execParamAddrLo (p : Byte) (s : State) : Out :=
  rowWhen (paramsSession s .addrLo) (afterWrite s (paramAddrLo p s))

/-- PARAM_ADDR_HI (R139, R140). -/
def execParamAddrHi (p : Byte) (s : State) : Out :=
  rowWhen (paramsSession s .addrHi) (afterWrite s (paramAddrHi p s))

/-- PARAM_LEN (R141 to R145). -/
def execParamLen (p : Byte) (s : State) : Out := rowWhen (paramsSession s .len) (afterWrite s (paramLen p s))

/-- PARAM_OTHER (R146): ignored. -/
def execParamOther (_p : Byte) (s : State) : Out := rowWhen (paramsSession s .other) (afterWrite s s)

/-- DATA_WR_LO (R148). -/
def execDataWrLo (d : Byte) (s : State) : Out := rowWhen (channelWrites s .lo) (afterWrite s (dataLow d s))

/-- DATA_WR_HI (R149). -/
def execDataWrHi (d : Byte) (s : State) : Out := rowWhen (channelWrites s .hi) (afterWrite s (dataHigh d s))

/-- DATA_WR_CONFIRM (R151). -/
def execDataWrConfirm (d : Byte) (s : State) : Out :=
  rowWhen (channelWrites s .confirm) (afterWrite s (confirmWrite d s))

/-- DATA_WR_OTHER (R147): ignored. -/
def execDataWrOther (_d : Byte) (s : State) : Out := rowWhen (channelWrites s .other) (afterWrite s s)

/-- DATA_RD_LO (R153). -/
def execDataRdLo (s : State) : Out := rowWhen (channelReads s .lo) (afterRead s (readLow s))

/-- DATA_RD_HI (R154). -/
def execDataRdHi (s : State) : Out := rowWhen (channelReads s .hi) (afterRead s (readHigh s))

/-- DATA_RD_CSUM (R155, R156). -/
def execDataRdCsum (s : State) : Out := rowWhen (channelReads s .csum) (afterRead s (serveChecksum s))

/-- DATA_RD_OTHER (R152): the sentinel. -/
def execDataRdOther (s : State) : Out := rowWhen (channelReads s .other) (afterRead s (sentinel, s))

end Sys2Proof.Machine
end

