-- ==== Sys2Proof/Machine/Registers.lean ====
section
/-! DEFINITION. Register access by region (41_register_access.md): the region handlers, and the meaning of the rows
WR_… and RD_…. -/

namespace Sys2Proof.Machine

open Sys2Proof

/-! ### Region handlers -/

/-- `WrApp(h, r, b)` (R111). -/
def wrApp (b : Byte) (s : State) : State := s.rfWrite s.rfIndex (xformIn s s.ptr b)

/-- `WrCal(h, r, b)` (R112). -/
def wrCal (b : Byte) (s : State) : State := s.rfWrite s.rfIndex (xformIn s s.ptr b)

/-- `WrKey(h, r, b)` (R113): never transformed. -/
def wrKey (b : Byte) (s : State) : State := s.rfWrite s.rfIndex b

/-- `WrCmd(b)` (R114). -/
def wrCmd (b : Byte) (s : State) : State := if s.progMode then sessCommand b s else s.setPend (some b)

/-- `WrCmdp(b)` (R115). -/
def wrCmdp (b : Byte) (s : State) : State := if s.progMode then sessParam b s else s

/-- The write handler of each region (40_bus_front_end.md R98); CUSTOM, ID and INVALID ignore the byte (R116 to
R118). -/
def writeHandler (g : Region) (b : Byte) (s : State) : State :=
  match g with
  | .app => wrApp b s
  | .cal => wrCal b s
  | .key => wrKey b s
  | .cmd => wrCmd b s
  | .cmdp => wrCmdp b s
  | .custom => s
  | .id => s
  | .invalid => s
  | .data => sessDataWrite b s

/-- `RdRf(h, r)` (R121 to R123). -/
def rdRf (s : State) : Byte := xformOut s s.ptr (s.rfByte s.rfIndex)

/-- `RdId(r)` (R124). -/
def rdId (s : State) : Byte :=
  xformOut s s.ptr ((if s.dev = .b then s.cfg.idB else s.cfg.idA).getD (s.ptr.toNat - s.cfg.idBase) 0)

/-- `RdCustom(r)` (R125). -/
def rdCustom (s : State) : Byte := xformOut s s.ptr s.cfg.customId

/-- The read handler of each region (40_bus_front_end.md R99); CMD, CMDP and INVALID return the sentinel (R126,
R127). -/
def readHandler (g : Region) (s : State) : Byte × State :=
  match g with
  | .app => (rdRf s, s)
  | .cal => (rdRf s, s)
  | .key => (rdRf s, s)
  | .id => (rdId s, s)
  | .custom => (rdCustom s, s)
  | .cmd => (sentinel, s)
  | .cmdp => (sentinel, s)
  | .invalid => (sentinel, s)
  | .data => sessDataRead s

/-! ### The rows -/

/-- WR_APP (R111). -/
def execWrApp (d : Byte) (s : State) : Out := rowWhen (writesAt s .app) (afterWrite s (wrApp d s))

/-- WR_CAL (R112). -/
def execWrCal (d : Byte) (s : State) : Out := rowWhen (writesAt s .cal) (afterWrite s (wrCal d s))

/-- WR_KEY (R113). -/
def execWrKey (d : Byte) (s : State) : Out := rowWhen (writesAt s .key) (afterWrite s (wrKey d s))

/-- WR_CMD (R114). -/
def execWrCmd (d : Byte) (s : State) : Out := rowWhen (writesAt s .cmd) (afterWrite s (wrCmd d s))

/-- WR_CMDP (R115). -/
def execWrCmdp (d : Byte) (s : State) : Out := rowWhen (writesAt s .cmdp) (afterWrite s (wrCmdp d s))

/-- WR_CUSTOM (R116): ignored. -/
def execWrCustom (_d : Byte) (s : State) : Out := rowWhen (writesAt s .custom) (afterWrite s s)

/-- WR_ID (R117): ignored, and no cycling. -/
def execWrId (_d : Byte) (s : State) : Out := rowWhen (writesAt s .id) (afterWrite s s)

/-- WR_INVALID (R118): ignored. -/
def execWrInvalid (_d : Byte) (s : State) : Out := rowWhen (writesAt s .invalid) (afterWrite s s)

/-- WR_DATA (R119). -/
def execWrData (d : Byte) (s : State) : Out := rowWhen (writesAt s .data) (afterWrite s (sessDataWrite d s))

/-- RD_APP (R121). -/
def execRdApp (s : State) : Out := rowWhen (readsAt s .app) (afterRead s (rdRf s, s))

/-- RD_CAL (R122). -/
def execRdCal (s : State) : Out := rowWhen (readsAt s .cal) (afterRead s (rdRf s, s))

/-- RD_KEY (R123). -/
def execRdKey (s : State) : Out := rowWhen (readsAt s .key) (afterRead s (rdRf s, s))

/-- RD_ID (R124). -/
def execRdId (s : State) : Out := rowWhen (readsAt s .id) (afterRead s (rdId s, s))

/-- RD_CUSTOM (R125). -/
def execRdCustom (s : State) : Out := rowWhen (readsAt s .custom) (afterRead s (rdCustom s, s))

/-- RD_CMD (R126). -/
def execRdCmd (s : State) : Out := rowWhen (readsAt s .cmd) (afterRead s (sentinel, s))

/-- RD_CMDP (R126). -/
def execRdCmdp (s : State) : Out := rowWhen (readsAt s .cmdp) (afterRead s (sentinel, s))

/-- RD_INVALID (R127). -/
def execRdInvalid (s : State) : Out := rowWhen (readsAt s .invalid) (afterRead s (sentinel, s))

/-- RD_DATA (R128). -/
def execRdData (s : State) : Out := rowWhen (readsAt s .data) (afterRead s (sessDataRead s))

end Sys2Proof.Machine
end

