-- ==== Sys2Proof/Machine/Flash.lean ====
section
/-! DEFINITION. The deferred flash actions and their row policy (43_flash_policy.md). -/

namespace Sys2Proof.Machine

open Sys2Proof

/-- The effective write length (R165). -/
def clampedLength (wa n : Nat) : Nat := min n (rowWords - wa % rowWords)

/-- The start of the row that holds `wa` (R163). -/
def rowStart (wa : Nat) : Nat := wa - wa % rowWords

/-- `ExecWrite(wa, buf, n)` (R162): guarded (R164), clamped (R165), no call for an empty write (R167). -/
def execWrite (wa : Nat) (buf : List Word) (n : Nat) (s : State) : State :=
  if wa < s.cfg.boundary then s
  else if clampedLength wa n = 0 then s
  else memWrite wa (buf.take (clampedLength wa n)) s

/-- `ExecErase(wa)` (R163): guarded (R164), the whole row. -/
def execErase (wa : Nat) (s : State) : State :=
  if wa < s.cfg.boundary then s else memErase (rowStart wa) s

/-- `TickSession()` (R161). -/
def tickSession (s : State) : State :=
  match s.ses.phase with
  | .writeReady => (execWrite s.ses.waddr.toNat s.ses.buf s.ses.nwords s).setSes Session.idle
  | .eraseReady => (execErase s.ses.waddr.toNat s).setSes Session.idle
  | .idle => s
  | .addrLo => s
  | .addrHi => s
  | .len => s
  | .data => s
  | .csumOut => s
  | .awaitConfirm => s

end Sys2Proof.Machine
end

