-- ==== Sys2Proof/Machine/Runtime.lean ====
section
/-! DEFINITION. The command dispatcher (44_command_dispatcher.md): the actions of the runtime codes, `RuntimeExec`,
the dispatcher part of TICK, and the meaning of the rows RCMD_…: the main-loop pass that finds that code pending. -/

namespace Sys2Proof.Machine

open Sys2Proof

/-! ### The actions (R179 to R185) -/

/-- PROGRAM-ENABLE (R179). -/
def programEnable (s : State) : State := (s.setProgMode true).setSes Session.idle

/-- CAL-LOAD (R182): half 0, raw. -/
def calLoad (s : State) : State := (s.signal .restore).rfStore s.cfg.calBase (restored s)

/-- CAL-STORE (R183): half 0, as stored. -/
def calStoreBlock (s : State) : State := persist (s.rfBlock s.cfg.calBase s.cfg.calLen) s

/-- CAL-DEFAULT (R184): half 0, the register file only. -/
def calDefaults (s : State) : State := s.rfStore s.cfg.calBase s.cfg.calDefault

/-- The key block of half 0 (R185, 10_state.md R44). -/
def keyBlock (s : State) : List Byte := s.rfBlock s.cfg.keyBase 16

/-- ENCRYPTION-ENABLE (R185). -/
def encryptionEnable (s : State) : State :=
  (s.signal (.deriveKey (keyBlock s) (deriveKeyOk s.cfg (keyBlock s)))).setXkey
    (if deriveKeyOk s.cfg (keyBlock s) then some (keyBlock s) else none)

/-- `RuntimeExec(c)` (R178); an unknown code does nothing (R186), the four programming codes among them, which are
none of the seven (R187, log entry 26). -/
def runtimeExec (c : Byte) (s : State) : State :=
  if c = s.cfg.cProgEn then programEnable s
  else if c = s.cfg.cCfgEn then s.setCfgMode true
  else if c = s.cfg.cCfgDis then s.setCfgMode false
  else if c = s.cfg.cCalLoad then calLoad s
  else if c = s.cfg.cCalStore then calStoreBlock s
  else if c = s.cfg.cCalDefault then calDefaults s
  else if c = s.cfg.cEncEn then encryptionEnable s
  else s

/-- `TickDispatch()` (R177). -/
def tickDispatch (s : State) : State :=
  match s.pend with
  | some c => (runtimeExec c s).setPend none
  | none => s

/-! ### The rows -/

/-- The pass finds this code pending. -/
def finds (s : State) (code : Byte) : Bool := s.pend == some code

/-- The rest of a pass after the action: the slot is cleared whatever the action did (R177), then the session part
(40_bus_front_end.md R109). -/
def restOfTick (t : State) : State := tickSession (t.setPend none)

/-- RCMD_PROG_EN (R179). -/
def execRcmdProgEn (s : State) : Out := rowWhen (finds s s.cfg.cProgEn) (restOfTick (programEnable s))

/-- RCMD_CFG_EN (R180). -/
def execRcmdCfgEn (s : State) : Out := rowWhen (finds s s.cfg.cCfgEn) (restOfTick (s.setCfgMode true))

/-- RCMD_CFG_DIS (R181). -/
def execRcmdCfgDis (s : State) : Out := rowWhen (finds s s.cfg.cCfgDis) (restOfTick (s.setCfgMode false))

/-- RCMD_CAL_LOAD (R182). -/
def execRcmdCalLoad (s : State) : Out := rowWhen (finds s s.cfg.cCalLoad) (restOfTick (calLoad s))

/-- RCMD_CAL_STORE (R183). -/
def execRcmdCalStore (s : State) : Out := rowWhen (finds s s.cfg.cCalStore) (restOfTick (calStoreBlock s))

/-- RCMD_CAL_DEFAULT (R184). -/
def execRcmdCalDefault (s : State) : Out := rowWhen (finds s s.cfg.cCalDefault) (restOfTick (calDefaults s))

/-- RCMD_ENC_EN (R185). -/
def execRcmdEncEn (s : State) : Out := rowWhen (finds s s.cfg.cEncEn) (restOfTick (encryptionEnable s))

/-- RCMD_OTHER (R186, R187): a code that is none of the seven. -/
def execRcmdOther (code : Byte) (s : State) : Out :=
  rowWhen (finds s code && !s.cfg.runtimeCodes.contains code) (restOfTick s)

end Sys2Proof.Machine
end

