-- ==== Sys2Proof/Machine/Bus.lean ====
section
/-! DEFINITION. The bus front-end and the non-bus events (40_bus_front_end.md, 70_reset_and_hazards.md R214): the
meaning of the rows ADDR_W, ADDR_R, PTR, WR, RD, STOP, OVF, APPWR, TICK and RESET. -/

namespace Sys2Proof.Machine

open Sys2Proof

/-- ADDR_W (R93). An address that does not match delivers no event (30_encoding.md R77). -/
def execAddrW (a : BusAddr) (s : State) : Out :=
  rowWhen (s.cfg.matchesAddr a) (s.setTransaction (identify s.cfg a) .w true)

/-- ADDR_R (R94). An address that does not match delivers no event (R77). -/
def execAddrR (a : BusAddr) (s : State) : Out :=
  rowWhen (s.cfg.matchesAddr a) (s.setTransaction (identify s.cfg a) .r false)

/-- The pointer byte loads the cursor (R97). -/
def loadPointer (b : Byte) (s : State) : State := { s with ptr := b, expectPtr := false }

/-- PTR (R97). -/
def execPtr (r : Byte) (s : State) : Out :=
  rowWhen (gate s && s.dir == .w && s.expectPtr) (loadPointer r s)

/-- WR (R98), as a whole: admitted only in a write transaction (30_encoding.md R76, log entry 10); then the gate (R96),
the pointer byte, the region handler and the cursor's advance. -/
def execWr (d : Byte) (s : State) : Out :=
  if s.dir ≠ .w then .refused .hostGrammar
  else if !gate s then .next s
  else if s.expectPtr then .next (loadPointer d s)
  else .next (afterWrite s (writeHandler s.region d s))

/-- RD (R99), as a whole: admitted only in a read transaction (R76, log entry 10); then the gate (R96), the region
handler and the cursor's advance. -/
def execRd (s : State) : Out :=
  if s.dir ≠ .r then .refused .hostGrammar
  else if !gate s then .next (s.signal (.hostRead sentinel))
  else .next (afterRead s (readHandler s.region s))

/-- STOP (R103). -/
def execStop (s : State) : Out := .next ((s.setTransaction .none .none false).setOvf false)

/-- OVF (R105). -/
def execOvf (s : State) : Out := .next (s.setOvf true)

/-- APPWR (R108). -/
def execAppwr (idx : BitVec 9) (b : Byte) (s : State) : Out :=
  if idx.toNat < s.cfg.cap then .next (s.rfWrite idx.toNat b) else .fault (.noSuchRegister idx.toNat)

/-- TICK (R109): the dispatcher part, then the session part. -/
def execTick (s : State) : Out := .next (tickSession (tickDispatch s))

/-- RESET (70_reset_and_hazards.md R214). -/
def execReset (s : State) : Out := .next (resetBlock s)

end Sys2Proof.Machine
end

