-- ==== Sys2Proof/Machine/Dispatch.lean ====
section
/-! DEFINITION. One arm per constructor of `Instr`: each calls the meaning of its row. -/

namespace Sys2Proof.Machine

open Sys2Proof

def exec (i : Instr) (s : State) : Host.Outcome State Fault Refusal :=
  match i with
  | .addrW a => Sys2Proof.Machine.execAddrW a s
  | .addrR a => Sys2Proof.Machine.execAddrR a s
  | .ptr r => Sys2Proof.Machine.execPtr r s
  | .wr d => Sys2Proof.Machine.execWr d s
  | .rd => Sys2Proof.Machine.execRd s
  | .stop => Sys2Proof.Machine.execStop s
  | .ovf => Sys2Proof.Machine.execOvf s
  | .appwr idx b => Sys2Proof.Machine.execAppwr idx b s
  | .tick => Sys2Proof.Machine.execTick s
  | .reset => Sys2Proof.Machine.execReset s
  | .wrApp d => Sys2Proof.Machine.execWrApp d s
  | .wrCal d => Sys2Proof.Machine.execWrCal d s
  | .wrKey d => Sys2Proof.Machine.execWrKey d s
  | .wrCmd d => Sys2Proof.Machine.execWrCmd d s
  | .wrCmdp d => Sys2Proof.Machine.execWrCmdp d s
  | .wrCustom d => Sys2Proof.Machine.execWrCustom d s
  | .wrId d => Sys2Proof.Machine.execWrId d s
  | .wrInvalid d => Sys2Proof.Machine.execWrInvalid d s
  | .wrData d => Sys2Proof.Machine.execWrData d s
  | .rdApp => Sys2Proof.Machine.execRdApp s
  | .rdCal => Sys2Proof.Machine.execRdCal s
  | .rdKey => Sys2Proof.Machine.execRdKey s
  | .rdId => Sys2Proof.Machine.execRdId s
  | .rdCustom => Sys2Proof.Machine.execRdCustom s
  | .rdCmd => Sys2Proof.Machine.execRdCmd s
  | .rdCmdp => Sys2Proof.Machine.execRdCmdp s
  | .rdInvalid => Sys2Proof.Machine.execRdInvalid s
  | .rdData => Sys2Proof.Machine.execRdData s
  | .pcmdErase => Sys2Proof.Machine.execPcmdErase s
  | .pcmdWrite => Sys2Proof.Machine.execPcmdWrite s
  | .pcmdRead => Sys2Proof.Machine.execPcmdRead s
  | .pcmdDisable => Sys2Proof.Machine.execPcmdDisable s
  | .pcmdOther code => Sys2Proof.Machine.execPcmdOther code s
  | .paramAddrLo p => Sys2Proof.Machine.execParamAddrLo p s
  | .paramAddrHi p => Sys2Proof.Machine.execParamAddrHi p s
  | .paramLen p => Sys2Proof.Machine.execParamLen p s
  | .paramOther p => Sys2Proof.Machine.execParamOther p s
  | .dataWrLo d => Sys2Proof.Machine.execDataWrLo d s
  | .dataWrHi d => Sys2Proof.Machine.execDataWrHi d s
  | .dataWrConfirm d => Sys2Proof.Machine.execDataWrConfirm d s
  | .dataWrOther d => Sys2Proof.Machine.execDataWrOther d s
  | .dataRdLo => Sys2Proof.Machine.execDataRdLo s
  | .dataRdHi => Sys2Proof.Machine.execDataRdHi s
  | .dataRdCsum => Sys2Proof.Machine.execDataRdCsum s
  | .dataRdOther => Sys2Proof.Machine.execDataRdOther s
  | .rcmdProgEn => Sys2Proof.Machine.execRcmdProgEn s
  | .rcmdCfgEn => Sys2Proof.Machine.execRcmdCfgEn s
  | .rcmdCfgDis => Sys2Proof.Machine.execRcmdCfgDis s
  | .rcmdCalLoad => Sys2Proof.Machine.execRcmdCalLoad s
  | .rcmdCalStore => Sys2Proof.Machine.execRcmdCalStore s
  | .rcmdCalDefault => Sys2Proof.Machine.execRcmdCalDefault s
  | .rcmdEncEn => Sys2Proof.Machine.execRcmdEncEn s
  | .rcmdOther code => Sys2Proof.Machine.execRcmdOther code s

end Sys2Proof.Machine
end

