-- ==== Sys2Proof/Machine/Fetch.lean ====
section
/-! DEFINITION. Taking the next input: which input the machine sees, the slot in which the state reads it, and how a
word of the opcode table is placed so that the next step reads it. -/

namespace Sys2Proof.Machine

open Sys2Proof

/-- The slot of a byte the host writes: the most specific selector of the opcode table that holds (R98, R114, R115,
R119, R131, R137, R147). With the gate closed, or outside a write transaction, it is row WR itself, which ignores the
byte or has no move (R96, R76). -/
def writeSlot (s : State) : Slot :=
  if !gate s || s.dir != .w then .write
  else if s.expectPtr then .pointer
  else match s.region with
    | .app => .regWrite .app
    | .cal => .regWrite .cal
    | .key => .regWrite .key
    | .custom => .regWrite .custom
    | .id => .regWrite .id
    | .invalid => .regWrite .invalid
    | .cmd => if s.progMode then .progCommand else .regWrite .cmd
    | .cmdp => if s.progMode then .param (paramRole s.ses.phase) else .regWrite .cmdp
    | .data => .chanWrite (chanWriteRole s.ses)

/-- The slot of a byte the host requests (R99, R128, R152). -/
def readSlot (s : State) : Slot :=
  if !gate s || s.dir != .r then .read
  else match s.region with
    | .data => .chanRead (chanReadRole s.ses)
    | .app => .regRead .app
    | .cal => .regRead .cal
    | .key => .regRead .key
    | .cmd => .regRead .cmd
    | .cmdp => .regRead .cmdp
    | .custom => .regRead .custom
    | .id => .regRead .id
    | .invalid => .regRead .invalid

/-- The slot and the bytes of a main-loop pass: the pending code, if there is one (R109, R177). -/
def tickInput (s : State) : Slot × List Byte :=
  match s.pend with
  | some c => (.pending, [c])
  | none => (.tick, [])

/-- What the machine takes next. -/
inductive Fetched where
  /-- A slot, the bytes it carries, and the state without the input. -/
  | row (slot : Slot) (bytes : List Byte) (s : State)
  /-- A byte that is no event of the block, and the state after it: traffic of another device (30_encoding.md R77,
  40_bus_front_end.md R110), or the rest of a transaction that a RESET cut (70_reset_and_hazards.md R214). -/
  | other (s : State)

/-- Take the oldest input. An ADDRESS byte that does not match opens another device's transaction, whose bytes are not
delivered; its STOP is (R110). The rest of a cut transaction is ignored until the next ADDR, and a byte requested in it
is the sentinel (R214, 60_exceptions.md R201; log entry 15); a byte against its direction is a data event outside a
transaction, as ever (R76). With no input waiting, the main loop makes a pass (log entry 2). -/
def fetch (s : State) : Fetched :=
  match s.inbox with
  | [] => .row (tickInput s).1 (tickInput s).2 s
  | .address b :: rest =>
    if s.cfg.matchesAddr (addressField b) then .row .address [b] { s with inbox := rest, bus := .ours }
    else .other { s with inbox := rest, bus := .foreign }
  | .write b :: rest =>
    match s.bus with
    | .ours | .cutRead => .row (writeSlot s) [b] { s with inbox := rest }
    | .foreign | .cutWrite => .other { s with inbox := rest }
  | .read :: rest =>
    match s.bus with
    | .ours | .cutWrite => .row (readSlot s) [] { s with inbox := rest }
    | .foreign => .other { s with inbox := rest }
    | .cutRead => .other ({ s with inbox := rest }.signal (.hostRead sentinel))
  | .stop :: rest => .row .stop [] { s with inbox := rest, bus := .ours }
  | .ovf :: rest => .row .ovf [] { s with inbox := rest }
  | .appwr idx b :: rest => .row (.appwr idx) [b] { s with inbox := rest }
  | .tick :: rest => .row (tickInput s).1 (tickInput s).2 { s with inbox := rest }
  | .reset :: rest => .row .reset [] { s with inbox := rest }

/-- Decode what was fetched and run it. -/
def runFetched (c : Config) : Fetched → Out
  | .other t => .next t
  | .row slot bytes t =>
    match decode c slot bytes with
    | .ok i => exec i t
    | .error e => .refused (.undecoded e)

/-- Place a byte of the opcode table so that the next step reads it in its slot (log entry 14): the byte is the only
input, and the transaction, mode, cursor or pending slot that the slot's selector asks for is set. -/
def placeByte (s : State) (b : Byte) : State :=
  match tableSlot s.cfg b with
  | .address => { s with inbox := [.address b] }
  | .progCommand =>
    { s with inbox := [.write b], bus := .ours, dev := .a, dir := .w, expectPtr := false, ovf := false,
             progMode := true, ptr := BitVec.ofNat 8 s.cfg.cmdReg }
  | .pending => { s with inbox := [.tick], pend := some b }
  | _ => { s with inbox := [.write b], bus := .ours, dev := .a, dir := .w, expectPtr := true, ovf := false }

/-- Place a bit string of the opcode table (a row without bits is the main loop's pass). -/
def placeTableWord (s : State) (nbits w : Nat) : State :=
  match nbits with
  | 0 => { s with inbox := [.tick], pend := none }
  | 8 => placeByte s (BitVec.ofNat 8 w)
  | _ => s

end Sys2Proof.Machine
end

