-- ==== Sys2Proof/Machine/Step.lean ====
section
/-! DEFINITION. One step: refuse an ill-formed configuration (00_scope.md R12), else take the next input and run the
instruction it is. -/

namespace Sys2Proof.Machine

open Sys2Proof

/-- One atomic step of one agent (00_scope.md R6, R15; 20_memory.md R58). -/
def step (s : State) : Host.Outcome State Fault Refusal :=
  if s.cfg.wf then runFetched s.cfg (fetch s) else .refused .badConfig

/-- `s` with a bit string of the opcode table where `step` takes its next input. -/
def State.withFetchWord (s : State) (nbits w : Nat) : State := placeTableWord s nbits w

end Sys2Proof.Machine
end

