-- ==== Sys2Proof/Safety.lean ====
section
/-! DEFINITION. The terms that claims use: the invariant of the block, the conditions under which an access reaches a
region, the row a step runs, runs of the machine, and the spec's labels of silent errors. -/

namespace Sys2Proof.Machine

open Sys2Proof

/-! ### The invariant -/

/-- The lengths of the blocks of bytes and words (10_state.md R18, R29, R33, R45). -/
abbrev ShapeInv (s : State) : Prop :=
  s.rf.length = s.cfg.cap ∧ s.calStore.length = s.cfg.calLen ∧ s.ses.buf.length = maxWords ∧
    ∀ k ∈ s.xkey, k.length = 16

/-- The transaction flags agree (R23 to R25): no identity without a direction, a pointer byte expected only in a
write transaction, device B only in a dual build. -/
abbrev BusInv (s : State) : Prop :=
  (s.dir = .none → s.dev = .none) ∧ (s.expectPtr = true → s.dir = .w) ∧ (s.dev = .b → s.cfg.dual = true)

/-- The modes (R27; 43_flash_policy.md R174; 60_exceptions.md R210): a bootloader build is always in programming
mode, no runtime command is pending in programming mode, and no session is open in runtime mode. -/
abbrev ModeInv (s : State) : Prop :=
  (s.cfg.runtime = false → s.progMode = true) ∧ (s.progMode = true → s.pend = none) ∧
    (s.progMode = false → s.ses = Session.idle)

/-- The session invariants of R34, (1) to (9), of a session `x` in a flash of `n` words. -/
abbrev SessionInv (n : Nat) (x : Session) : Prop :=
  (x.idx ≤ x.nwords ∧ x.nwords ≤ maxWords) ∧
  (x.phase = .idle → x.cmd = .none) ∧
  (x.phase ≠ .idle → x.cmd ≠ .none) ∧
  (x.phase = .eraseReady → x.cmd = .erase) ∧
  (x.phase = .len ∨ x.phase = .data ∨ x.phase = .csumOut → x.cmd = .write ∨ x.cmd = .read) ∧
  (x.phase = .awaitConfirm ∨ x.phase = .writeReady → x.cmd = .write) ∧
  (x.phase = .data → x.idx < x.nwords) ∧
  (x.hi = true → x.phase = .data) ∧
  (x.phase ≠ .idle ∧ x.phase ≠ .addrLo ∧ x.phase ≠ .addrHi → x.waddr.toNat < n)

/-- The invariant every step keeps. -/
abbrev State.Inv (s : State) : Prop :=
  s.cfg.wf = true ∧ ShapeInv s ∧ Memory.wf s = true ∧ BusInv s ∧ ModeInv s ∧ SessionInv s.cfg.flashWords s.ses

/-! ### The checks of a configuration, said without the functions that run them -/

/-- The ranges, each a first address and a length, lie in `0x00..0xFF` and no two share an address. -/
abbrev RangesApart (l : List (Nat × Nat)) : Prop :=
  (∀ p ∈ l, p.1 + p.2 ≤ 256) ∧
    l.Pairwise (fun p q => ∀ a, ¬ (p.1 ≤ a ∧ a < p.1 + p.2 ∧ q.1 ≤ a ∧ a < q.1 + q.2))

/-- The checks of 00_scope.md R12, (1) to (11), with the sizes that R7 and R8 give `CAL_LEN` and the identity
blocks, and with the two lists of codes apart, as 92_eei_decisions.md D6 asks (log entry 26). -/
abbrev PassesChecks (c : Config) : Prop :=
  [c.cErase, c.cWrite, c.cRead, c.cDisable].Nodup ∧
  [c.cProgEn, c.cCfgEn, c.cCfgDis, c.cCalLoad, c.cCalStore, c.cCalDefault, c.cEncEn].Nodup ∧
  RangesApart [(c.appBase, c.appLen), (c.calBase, c.calLen), (c.keyBase, 16), (c.cmdReg, 4), (c.customReg, 1),
    (c.idBase, 6)] ∧
  RangesApart [(c.dataBase, c.dataLen), (c.cmdReg, 4), (c.customReg, 1), (c.idBase, 6)] ∧
  c.dataBase = c.appBase ∧
  65 ≤ c.dataLen ∧
  c.boundary % 32 = 0 ∧
  c.flashWords % 32 = 0 ∧
  (c.boundary ≤ c.flashWords ∧ c.flashWords ≤ 0x10000) ∧
  (c.dual = true → c.addrA ≠ c.addrB ∧ c.addrA &&& c.addrMask = c.addrB &&& c.addrMask) ∧
  (c.dual = false → c.addrMask = 0x7F) ∧
  c.calDefault.length = c.calLen ∧
  (c.calLen = 14 ∨ c.calLen = 32) ∧
  (c.idA.length = 6 ∧ c.idB.length = 6) ∧
  (∀ b ∈ [c.cErase, c.cWrite, c.cRead, c.cDisable],
    b ∉ [c.cProgEn, c.cCfgEn, c.cCfgDis, c.cCalLoad, c.cCalStore, c.cCalDefault, c.cEncEn])

/-! ### Accesses -/

/-- A written byte reaches region `g` (40_bus_front_end.md R96 to R98). -/
abbrev State.WriteAccess (s : State) (g : Region) : Prop :=
  s.dev ≠ .none ∧ s.ovf = false ∧ s.dir = .w ∧ s.expectPtr = false ∧ regionOf s.cfg s.progMode s.ptr = g

/-- A requested byte comes from region `g` (R96, R99). -/
abbrev State.ReadAccess (s : State) (g : Region) : Prop :=
  s.dev ≠ .none ∧ s.ovf = false ∧ s.dir = .r ∧ regionOf s.cfg s.progMode s.ptr = g

/-- The session waits for data bytes of its command: phase DATA. -/
abbrev Session.InData (x : Session) (c : SesCmd) : Prop := x.phase = .data ∧ x.cmd = c

/-! ### Steps and runs -/

/-- The row the next step runs; none where the input is another device's traffic. -/
def stepRow (s : State) : Option Instr :=
  match fetch s with
  | .row slot bytes _ => (decode s.cfg slot bytes).toOption
  | .other _ => none

/-- A main-loop pass: TICK, or one of the rows of a pending code. -/
def isPassRow : Instr → Bool
  | .tick | .rcmdProgEn | .rcmdCfgEn | .rcmdCfgDis | .rcmdCalLoad | .rcmdCalStore | .rcmdCalDefault | .rcmdEncEn
  | .rcmdOther _ => true
  | _ => false

/-- A command byte of programming mode. -/
def isCommandRow : Instr → Bool
  | .pcmdErase | .pcmdWrite | .pcmdRead | .pcmdDisable | .pcmdOther _ => true
  | _ => false

/-- The rows that may write the register file (10_state.md R19). -/
def isRegisterFileRow : Instr → Bool
  | .wrApp _ | .wrCal _ | .wrKey _ | .appwr _ _ | .rcmdCalLoad | .rcmdCalDefault | .reset => true
  | _ => false

/-- The rows that may write the pending slot: a command byte of runtime mode, a pass that finds a code, RESET (R30). -/
def isPendingRow : Instr → Bool
  | .wrCmd _ | .reset => true
  | i => isPassRow i && i != .tick

/-- The rows that may write the session (42_programming_session.md R159; 43_flash_policy.md R161;
44_command_dispatcher.md R179). -/
def isSessionRow : Instr → Bool
  | .paramAddrLo _ | .paramAddrHi _ | .paramLen _ | .dataWrLo _ | .dataWrHi _ | .dataWrConfirm _ | .dataRdLo | .dataRdHi
  | .dataRdCsum | .tick | .rcmdProgEn | .reset => true
  | i => isCommandRow i

/-- The rows that may write the identity and the direction of the transaction (R23, R24). -/
def isTransactionRow : Instr → Bool
  | .addrW _ | .addrR _ | .stop | .reset => true
  | _ => false

/-- The rows that may add a record to the output log, the delivered bytes of reads apart (R46). -/
def isRecordRow : Instr → Bool
  | .pcmdDisable | .paramLen _ | .tick | .rcmdCalLoad | .rcmdCalStore | .rcmdEncEn | .reset => true
  | _ => false

/-- The byte the last record of the log delivered to the host. -/
def deliveredByte (t : State) : List Byte :=
  match t.outLog.getLast? with
  | some (.hostRead b) => [b]
  | _ => []

/-- The address, length and payload bytes a step from `s` to `t` moves (42_programming_session.md R157). -/
def movedBytes (s t : State) : List Byte :=
  match stepRow s with
  | some (.paramAddrLo p) => [p]
  | some (.paramAddrHi p) => [p]
  | some (.paramLen p) => [p]
  | some (.dataWrLo d) => [d]
  | some (.dataWrHi d) => [d]
  | some .dataRdLo => deliveredByte t
  | some .dataRdHi => deliveredByte t
  | _ => []

/-- A WRITE or READ session from its command byte on: the bytes it has moved, and the state now. Any inputs may come
between its bytes, but no command byte and no RESET. -/
inductive SessionTrace : List Byte → State → Prop where
  | start (s t : State) : step s = .next t → stepRow s = some .pcmdWrite ∨ stepRow s = some .pcmdRead →
      SessionTrace [] t
  | move (bs : List Byte) (s t : State) : SessionTrace bs s → step s = .next t →
      (∀ i, stepRow s = some i → isCommandRow i = false ∧ i ≠ .reset) → SessionTrace (bs ++ movedBytes s t) t

/-- A run in which no CAL-STORE is executed; resets and any traffic may occur. -/
inductive RunWithoutCalStore : State → State → Prop where
  | refl (s : State) : RunWithoutCalStore s s
  | more (s t u : State) : RunWithoutCalStore s t → step t = .next u → stepRow t ≠ some .rcmdCalStore →
      RunWithoutCalStore s u

/-- A flash call that erases or writes (43_flash_policy.md R168). -/
def Output.isFlashChange : Output → Bool
  | .eraseRow _ => true
  | .writeRow _ _ _ => true
  | _ => false

/-- The row policy of one log record (R168 (1) to (3), R166). -/
def Output.obeysRowPolicy (c : Config) : Output → Prop
  | .eraseRow ra => ra % rowWords = 0 ∧ c.boundary ≤ ra ∧ ra + rowWords ≤ c.flashWords
  | .writeRow wa words n =>
    1 ≤ n ∧ n ≤ rowWords - wa % rowWords ∧ c.boundary ≤ wa ∧ wa + n ≤ c.flashWords ∧ words.length = n
  | _ => True

/-! ### Silent errors -/

/-- The spec's labels of the errors the block detects (60_exceptions.md R194); `ERR_CHECKSUM` is the host's. -/
inductive ErrorClass where
  | regRange | flashRange | clamp | boundary | malformed | unaddressed | overflow | key
deriving DecidableEq, Repr

/-- The label of the session part of a pass (R164, R165). A dropped write is not clamped: R162 returns first. -/
def passError (s : State) : Option ErrorClass :=
  if (s.ses.phase = .writeReady ∨ s.ses.phase = .eraseReady) ∧ s.ses.waddr.toNat < s.cfg.boundary then some .boundary
  else if s.ses.phase = .writeReady ∧ clampedLength s.ses.waddr.toNat s.ses.nwords < s.ses.nwords then some .clamp
  else none

/-- The label of a data event that the gate turns away (R194, R201, R202). With no device and an overflow both, the spec
names two labels without an order; the model takes the first of R194's two (DESIGN CHOICE, log entry 27). -/
def gateError (s : State) : Option ErrorClass :=
  if s.dev = .none then some .unaddressed else if s.ovf then some .overflow else none

/-- The label of a high address byte `p` (R197, R204). An odd byte address past the flash meets both labels, and the spec
gives no order; the model takes the one that decides the outcome, ERR_FLASH_RANGE (DESIGN CHOICE, log entry 28). -/
def addressError (p : Byte) (s : State) : Option ErrorClass :=
  if s.cfg.flashWords ≤ (wordAddress (joinBytes p s.ses.addrLo)).toNat then some .flashRange
  else if s.ses.addrLo.getLsbD 0 then some .clamp else none

/-- The label of an instruction in a state in which its row is selected (R194 to R204). Never recorded (R193). Where two
conditions hold at once, log entries 27 and 28 say which label it is. -/
def errorClass (i : Instr) (s : State) : Option ErrorClass :=
  match i with
  | .wr _ => if s.dir = .w then gateError s else none
  | .rd => if s.dir = .r then gateError s else none
  | .wrInvalid _ => if writesAt s .invalid then some .regRange else none
  | .rdInvalid => if readsAt s .invalid then some .regRange else none
  | .paramAddrHi p => if paramsSession s .addrHi then addressError p s else none
  | .paramLen p =>
    if paramsSession s .len ∧ (p.toNat % 2 = 1 ∨ 2 * maxWords < p.toNat) then some .clamp else none
  | .paramOther _ => if paramsSession s .other then some .malformed else none
  | .dataWrOther _ => if channelWrites s .other then some .malformed else none
  | .dataRdOther => if channelReads s .other then some .malformed else none
  | .rcmdEncEn => if finds s s.cfg.cEncEn && !deriveKeyOk s.cfg (keyBlock s) then some .key else none
  | .tick => passError s
  | _ => none

end Sys2Proof.Machine
end

