-- ==== Sys2Proof/Certificates/Slice0/Obligations.lean ====
section
/-! DEFINITION. The statements for the provers, in the order of OBLIGATIONS.json. -/

open Sys2Proof Sys2Proof.Machine

/-! ### Encoding, decoding, the step -/

/-- Every row's encoding decodes to the row, with every operand (30_encoding.md R71 to R73, R88, R89). -/
def Obligations.DecodeOfEncodeIsTheInstruction : Prop :=
  ∀ (c : Config) (i : Instr), c.wf = true → i.wf c = true → decode c (encode c i).1 (encode c i).2 = .ok i

/-- Bytes in a slot are at most one instruction, and a well-formed one. An APPWR index needs its own check. -/
def Obligations.EncodeOfDecodedIsTheBytes : Prop :=
  ∀ (c : Config) (slot : Slot) (bytes : List Byte) (i : Instr), decode c slot bytes = .ok i →
    encode c i = (slot, bytes) ∧ ((∀ idx, slot ≠ .appwr idx) → i.wf c = true)

/-- Bytes written out from the spec's formats decode to the rows they stand for (reference codes of R8, R9). -/
def Obligations.SampleBytesDecode : Prop :=
  decode Config.reference .address [0b10100100] = .ok (.addrW 0b1010010) ∧
  decode Config.reference .address [0b10100101] = .ok (.addrR 0b1010010) ∧
  decode Config.reference .address [0b00100000] = .error .notAddressed ∧
  decode Config.reference .pointer [0b11100000] = .ok (.ptr 0xE0) ∧
  decode Config.reference (.regWrite .app) [0b00010001] = .ok (.wrApp 0x11) ∧
  decode Config.reference .progCommand [0b00100001] = .ok .pcmdWrite ∧
  decode Config.reference .progCommand [0b00110000] = .ok (.pcmdOther 0x30) ∧
  decode Config.reference (.param .len) [0b00000100] = .ok (.paramLen 4) ∧
  decode Config.reference (.chanWrite .hi) [0b00010010] = .ok (.dataWrHi 0x12) ∧
  decode Config.reference (.chanRead .csum) [] = .ok .dataRdCsum ∧
  decode Config.reference .pending [0b00110100] = .ok .rcmdCalStore ∧
  decode Config.reference .stop [0b00000000] = .error .wrongByteCount

/-- A step runs the instruction that the taken input decodes to, on the state without that input. That the inputs wait
in the list `inbox` is the model's choice (log entry 1). -/
def Obligations.StepRunsTheDecodedInstruction : Prop :=
  ∀ (s : State) (slot : Slot) (bytes : List Byte) (t : State) (i : Instr), s.cfg.wf = true →
    fetch s = .row slot bytes t → decode s.cfg slot bytes = .ok i →
    step s = exec i t ∧ t.inbox = s.inbox.tail ∧ { t with inbox := s.inbox, bus := s.bus } = s

/-- The row that the state selects for a written byte, a requested byte or a pass does exactly what the event's own
handler does (R98, R99, R109 against the rows of 41, 42 and 44). That a row is a whole event is the model's choice (log
entry 13). -/
def Obligations.SelectedRowRefinesTheEventHandler : Prop :=
  (∀ (s : State) (b : Byte) (i : Instr), decode s.cfg (writeSlot s) [b] = .ok i → exec i s = exec (.wr b) s) ∧
  (∀ (s : State) (i : Instr), decode s.cfg (readSlot s) [] = .ok i → exec i s = exec .rd s) ∧
  (∀ (s : State) (i : Instr), decode s.cfg (tickInput s).1 (tickInput s).2 = .ok i → exec i s = exec .tick s)

/-- Where an access reaches a region, the region's row and the event complete alike, and the cursor moves (R98, R99). -/
def Obligations.RegionRowsCompleteAsTheirEvents : Prop :=
  (∀ (s : State) (g : Region) (b : Byte), s.WriteAccess g →
    ∃ t, exec (.wr b) s = .next t ∧ exec (decodeRegWrite b g) s = .next t ∧ t.ptr = s.ptr + 1) ∧
  (∀ (s : State) (g : Region), s.ReadAccess g →
    ∃ t out, exec .rd s = .next t ∧ exec (decodeRegRead g) s = .next t ∧
      t.outLog.getLast? = some (.hostRead out) ∧ t.rf = s.rf ∧ t.progMode = s.progMode)

/-- A step always selects a row whose selector holds, and bytes that decode. The two refusals are the model's choice
for direct calls of `exec` (log entry 12). -/
def Obligations.StepNeverMeetsAnUnselectedRow : Prop :=
  ∀ s : State, step s ≠ .refused .notThisRow ∧ ∀ e : DecodeError, step s ≠ .refused (.undecoded e)

/-- A configuration is refused exactly when it breaks a check of R12; the reference configuration passes. That the sizes
of R7 and R8 are checked with R12, where an empty range stands, that a programming code may not be a runtime code, and
that check (3) is asked of bootloader builds too are the model's readings (log entries 21, 22, 26 and 29). -/
def Obligations.IllFormedConfigurationsAreRefused : Prop :=
  (∀ s : State, ¬ PassesChecks s.cfg → step s = .refused .badConfig) ∧
  (∀ s : State, PassesChecks s.cfg → step s ≠ .refused .badConfig) ∧
  PassesChecks Config.reference

/-- Another device's transaction delivers nothing but its STOP (R110). How the model knows whose the transaction is, and
that the inputs wait in a list, are its own choices (log entries 15 and 1). -/
def Obligations.OtherDevicesDeliverOnlyTheirStop : Prop :=
  ∀ (s : State) (rest : List Event), s.cfg.wf = true →
    (∀ b, s.inbox = .address b :: rest → s.cfg.matchesAddr (addressField b) = false →
      step s = .next { s with inbox := rest, bus := .foreign }) ∧
    (∀ b, s.inbox = .write b :: rest → s.bus = .foreign → step s = .next { s with inbox := rest }) ∧
    (s.inbox = .read :: rest → s.bus = .foreign → step s = .next { s with inbox := rest }) ∧
    (s.inbox = .stop :: rest →
      step s = .next { s with inbox := rest, bus := .ours, dev := .none, dir := .none, expectPtr := false,
                              ovf := false })

/-! ### Bus front-end -/

/-- ADDR_W and ADDR_R record the device and the direction, and leave everything else (R93, R94, R95). -/
def Obligations.AddressEventsRecordTheDevice : Prop :=
  ∀ (s : State) (a : BusAddr), s.cfg.matchesAddr a = true →
    ∃ d : Dev,
      (s.cfg.dual = false → d = .a) ∧
      (s.cfg.dual = true → a = s.cfg.addrA → d = .a) ∧
      (s.cfg.dual = true → a ≠ s.cfg.addrA → a = s.cfg.addrB → d = .b) ∧
      (s.cfg.dual = true → a ≠ s.cfg.addrA → a ≠ s.cfg.addrB → d = .none) ∧
      exec (.addrW a) s = .next { s with dev := d, dir := .w, expectPtr := true } ∧
      exec (.addrR a) s = .next { s with dev := d, dir := .r, expectPtr := false }

/-- The pointer byte loads the cursor and does nothing else (R97). -/
def Obligations.PointerByteLoadsTheCursor : Prop :=
  ∀ (s : State) (r : Byte), s.dev ≠ .none → s.ovf = false → s.dir = .w → s.expectPtr = true →
    exec (.ptr r) s = .next { s with ptr := r, expectPtr := false } ∧
    exec (.wr r) s = .next { s with ptr := r, expectPtr := false }

/-- With the gate closed, a written byte of a write transaction changes nothing and a read of a read transaction
delivers the sentinel; the address bytes themselves are accepted all the same (R96). That the direction is asked first is the
model's reading (log entry 10). -/
def Obligations.ClosedGateIgnoresBytes : Prop :=
  ∀ s : State, s.dev = .none ∨ s.ovf = true →
    (s.dir = .w → ∀ d : Byte, exec (.wr d) s = .next s) ∧
    (s.dir = .r → exec .rd s = .next { s with outLog := s.outLog ++ [.hostRead 0xFF] }) ∧
    (∀ a : BusAddr, s.cfg.matchesAddr a = true →
      (∃ t, exec (.addrW a) s = .next t ∧ t.dir = .w) ∧ ∃ t, exec (.addrR a) s = .next t ∧ t.dir = .r)

/-- A write outside a write transaction and a read outside a read transaction have no move, whatever the gate (R76; that
the rule comes before R201 is log entry 10). -/
def Obligations.WrongDirectionHasNoMove : Prop :=
  ∀ s : State,
    (∀ d : Byte, s.dir ≠ .w → exec (.wr d) s = .refused .hostGrammar) ∧
    (s.dir ≠ .r → exec .rd s = .refused .hostGrammar)

/-- The region decode is the register map of R36 and R37, whatever the order of its cases (R38). -/
def Obligations.RegionDecodeIsTheRegisterMap : Prop :=
  ∀ (c : Config) (r : Byte), c.wf = true → ∀ pm : Bool,
    (regionOf c pm r = .cmd ↔ r.toNat = c.cmdReg) ∧
    (regionOf c pm r = .cmdp ↔ c.cmdReg + 1 ≤ r.toNat ∧ r.toNat ≤ c.cmdReg + 3) ∧
    (regionOf c pm r = .custom ↔ r.toNat = c.customReg) ∧
    (regionOf c pm r = .id ↔ c.idBase ≤ r.toNat ∧ r.toNat ≤ c.idBase + 5) ∧
    (regionOf c pm r = .data ↔ pm = true ∧ c.dataBase ≤ r.toNat ∧ r.toNat < c.dataBase + c.dataLen) ∧
    (regionOf c pm r = .app ↔ pm = false ∧ c.appBase ≤ r.toNat ∧ r.toNat < c.appBase + c.appLen) ∧
    (regionOf c pm r = .cal ↔ pm = false ∧ c.calBase ≤ r.toNat ∧ r.toNat < c.calBase + c.calLen) ∧
    (regionOf c pm r = .key ↔ pm = false ∧ c.keyBase ≤ r.toNat ∧ r.toNat < c.keyBase + 16)

/-- STOP ends the transaction and drains the overflow; OVF sets it; both leave everything else (R103, R105). -/
def Obligations.StopAndOverflowEvents : Prop :=
  ∀ s : State,
    exec .stop s = .next { s with dev := .none, dir := .none, expectPtr := false, ovf := false } ∧
    exec .ovf s = .next { s with ovf := true }

/-- APPWR stores its byte at its index, raw, and changes nothing else (R108). -/
def Obligations.ApplicationWriteStoresOneByte : Prop :=
  ∀ (s : State) (idx : BitVec 9) (b : Byte), s.rf.length = s.cfg.cap → idx.toNat < s.cfg.cap →
    ∃ t, exec (.appwr idx b) s = .next t ∧
      (∀ j, t.rfByte j = if j = idx.toNat then b else s.rfByte j) ∧ { t with rf := s.rf } = s

/-- An APPWR index at or past `CAP` is no register of R108: the model stops, by name (the model's choice, log entry
16). -/
def Obligations.ApplicationWritePastTheFileStops : Prop :=
  ∀ (s : State) (idx : BitVec 9) (b : Byte), s.cfg.cap ≤ idx.toNat →
    exec (.appwr idx b) s = .fault (.noSuchRegister idx.toNat)

/-- RESET leaves the values of R215: everything volatile at its reset value, flash and calibration store as they
were, the log kept and one record longer (R214). The bytes of `rf` are any bytes. -/
def Obligations.ResetEventLeavesTheResetValues : Prop :=
  ∀ s : State, ∃ t, exec .reset s = .next t ∧
    t.rf.length = s.cfg.cap ∧ t.ptr = 0 ∧ t.dev = .none ∧ t.dir = .none ∧ t.expectPtr = false ∧ t.ovf = false ∧
    (t.progMode = true ↔ s.cfg.runtime = false) ∧ t.cfgMode = false ∧ t.xkey = none ∧ t.pend = none ∧
    t.ses = Session.idle ∧ t.flash = s.flash ∧ t.calStore = s.calStore ∧ t.outLog = s.outLog ++ [.reset] ∧
    t.cfg = s.cfg ∧ t.inbox = s.inbox

/-! ### Register access -/

/-- The transform is the connected function under the key in runtime mode, and the identity otherwise (R120). -/
def Obligations.TransformOnlyWithAKeyInRuntimeMode : Prop :=
  ∀ (s : State) (r b : Byte),
    (∀ k, s.progMode = false → s.xkey = some k →
      xformIn s r b = decodeByte s.cfg k r b ∧ xformOut s r b = encodeByte s.cfg k r b) ∧
    (s.progMode = true ∨ s.xkey = none → xformIn s r b = b ∧ xformOut s r b = b)

/-- A write to an application or calibration register stores the DECODEd byte in the current device's half and
changes nothing else but the cursor (R111, R112). -/
def Obligations.AppAndCalWritesStoreTheDecodedByte : Prop :=
  ∀ (s : State) (d : Byte), s.Inv →
    (s.WriteAccess .app → ∃ t, exec (.wrApp d) s = .next t ∧
      (∀ j, t.rfByte j =
        if j = (if s.dev = .b then 256 else 0) + s.ptr.toNat then xformIn s s.ptr d else s.rfByte j) ∧
      { t with rf := s.rf } = { s with ptr := s.ptr + 1 }) ∧
    (s.WriteAccess .cal → ∃ t, exec (.wrCal d) s = .next t ∧
      (∀ j, t.rfByte j =
        if j = (if s.dev = .b then 256 else 0) + s.ptr.toNat then xformIn s s.ptr d else s.rfByte j) ∧
      { t with rf := s.rf } = { s with ptr := s.ptr + 1 })

/-- A write to a key register stores the raw byte, whatever the transform (R113). -/
def Obligations.KeyWriteStoresTheRawByte : Prop :=
  ∀ (s : State) (d : Byte), s.Inv → s.WriteAccess .key → ∃ t, exec (.wrKey d) s = .next t ∧
    (∀ j, t.rfByte j = if j = (if s.dev = .b then 256 else 0) + s.ptr.toNat then d else s.rfByte j) ∧
    { t with rf := s.rf } = { s with ptr := s.ptr + 1 }

/-- A write at the command register is queued in runtime mode and starts or ends a session in programming mode, where
only a DISABLE byte may reach the log and the mode; it is stored nowhere else (R114, R176, with R131). -/
def Obligations.CommandRegisterWriteIsRouted : Prop :=
  ∀ (s : State) (d : Byte), s.WriteAccess .cmd →
    (s.progMode = false → exec (.wrCmd d) s = .next { s with pend := some d, ptr := s.ptr + 1 }) ∧
    (s.progMode = true → ∃ t, exec (.wrCmd d) s = .next t ∧
      { t with ses := s.ses, outLog := s.outLog, progMode := s.progMode } = { s with ptr := s.ptr + 1 } ∧
      (d = s.cfg.cDisable ∨ (t.outLog = s.outLog ∧ t.progMode = true)) ∧
      t.ses = (if d = s.cfg.cErase then { Session.idle with phase := .addrLo, cmd := .erase }
        else if d = s.cfg.cWrite then { Session.idle with phase := .addrLo, cmd := .write }
        else if d = s.cfg.cRead then { Session.idle with phase := .addrLo, cmd := .read }
        else Session.idle))

/-- A write at a parameter register is ignored in runtime mode and reaches only the session (and, for an inline READ,
the log and the draws) in programming mode (R115, R191). -/
def Obligations.ParameterRegisterWriteIsRouted : Prop :=
  ∀ (s : State) (d : Byte), s.WriteAccess .cmdp →
    (s.progMode = false → exec (.wrCmdp d) s = .next { s with ptr := s.ptr + 1 }) ∧
    (s.progMode = true → ∃ t, exec (.wrCmdp d) s = .next t ∧
      { t with ses := s.ses, outLog := s.outLog, draws := s.draws } = { s with ptr := s.ptr + 1 })

/-- Writes to the custom-ID register, the identity registers and undecoded addresses change nothing but the cursor,
which does not cycle (R116, R117, R118). -/
def Obligations.ReadOnlyAndInvalidWritesAreIgnored : Prop :=
  ∀ (s : State) (d : Byte),
    (s.WriteAccess .custom → exec (.wrCustom d) s = .next { s with ptr := s.ptr + 1 }) ∧
    (s.WriteAccess .id → exec (.wrId d) s = .next { s with ptr := s.ptr + 1 }) ∧
    (s.WriteAccess .invalid → exec (.wrInvalid d) s = .next { s with ptr := s.ptr + 1 })

/-- Data-channel traffic reaches only the session: nothing is stored in `rf`, and a read delivers one byte (R119,
R128). -/
def Obligations.DataChannelReachesOnlyTheSession : Prop :=
  (∀ (s : State) (d : Byte), s.WriteAccess .data → ∃ t, exec (.wrData d) s = .next t ∧
    { t with ses := s.ses } = { s with ptr := s.ptr + 1 }) ∧
  (∀ s : State, s.ReadAccess .data → ∃ t out, exec .rdData s = .next t ∧
    { t with ses := s.ses } = { s with ptr := s.ptr + 1, outLog := s.outLog ++ [.hostRead out] })

/-- A read of an application, calibration or key register delivers the ENCODEd byte of the current device's half and
changes nothing but the cursor and the log (R121, R122, R123). -/
def Obligations.RegisterReadsDeliverTheEncodedByte : Prop :=
  ∀ s : State,
    let t : State := { s with
      ptr := s.ptr + 1
      outLog := s.outLog ++
        [.hostRead (xformOut s s.ptr (s.rfByte ((if s.dev = .b then 256 else 0) + s.ptr.toNat)))] }
    (s.ReadAccess .app → exec .rdApp s = .next t) ∧
    (s.ReadAccess .cal → exec .rdCal s = .next t) ∧
    (s.ReadAccess .key → exec .rdKey s = .next t)

/-- An identity read delivers the device's byte, and the cursor cycles from the last register to the first (R124,
R100). -/
def Obligations.IdentityReadsCycle : Prop :=
  ∀ (s : State) (i : Nat), s.ReadAccess .id → s.ptr.toNat = s.cfg.idBase + i →
    exec .rdId s = .next { s with
      ptr := if i = 5 then BitVec.ofNat 8 s.cfg.idBase else s.ptr + 1
      outLog := s.outLog ++
        [.hostRead (xformOut s s.ptr ((if s.dev = .b then s.cfg.idB else s.cfg.idA).getD i 0))] }

/-- The custom-ID register reads its constant; the command window and undecoded addresses read the untransformed
sentinel (R125, R126, R127). -/
def Obligations.ConstantReads : Prop :=
  ∀ s : State,
    let t (b : Byte) : State := { s with ptr := s.ptr + 1, outLog := s.outLog ++ [.hostRead b] }
    (s.ReadAccess .custom → exec .rdCustom s = .next (t (xformOut s s.ptr s.cfg.customId))) ∧
    (s.ReadAccess .cmd → exec .rdCmd s = .next (t 0xFF)) ∧
    (s.ReadAccess .cmdp → exec .rdCmdp s = .next (t 0xFF)) ∧
    (s.ReadAccess .invalid → exec .rdInvalid s = .next (t 0xFF))

/-! ### Programming session -/

/-- The command bytes start a fresh session of their command, or none (R132, R133, R135, R136). -/
def Obligations.CommandBytesStartAFreshSession : Prop :=
  ∀ s : State, s.WriteAccess .cmd → s.progMode = true →
    exec .pcmdErase s = .next { s with
      ptr := s.ptr + 1, ses := { Session.idle with phase := .addrLo, cmd := .erase } } ∧
    exec .pcmdWrite s = .next { s with
      ptr := s.ptr + 1, ses := { Session.idle with phase := .addrLo, cmd := .write } } ∧
    exec .pcmdRead s = .next { s with
      ptr := s.ptr + 1, ses := { Session.idle with phase := .addrLo, cmd := .read } } ∧
    (∀ code, code ≠ s.cfg.cErase → code ≠ s.cfg.cWrite → code ≠ s.cfg.cRead → code ≠ s.cfg.cDisable →
      exec (.pcmdOther code) s = .next { s with ptr := s.ptr + 1, ses := Session.idle })

/-- DISABLE ends the session at once, is logged, and leaves programming mode in runtime builds (R134). -/
def Obligations.DisableLeavesProgrammingMode : Prop :=
  ∀ s : State, s.WriteAccess .cmd → s.progMode = true →
    (s.cfg.runtime = true → exec .pcmdDisable s = .next { s with
      ptr := s.ptr + 1, ses := Session.idle, outLog := s.outLog ++ [.exitProgramming], progMode := false }) ∧
    (s.cfg.runtime = false → exec .pcmdDisable s = .next { s with
      ptr := s.ptr + 1, ses := Session.idle, outLog := s.outLog ++ [.exitProgramming] })

/-- The low address byte is kept for the high one (R138). -/
def Obligations.LowAddressByteIsKept : Prop :=
  ∀ (s : State) (p : Byte), s.WriteAccess .cmdp → s.progMode = true → s.ses.phase = .addrLo →
    exec (.paramAddrLo p) s = .next { s with
      ptr := s.ptr + 1, ses := { s.ses with addrLo := p, phase := .addrHi } }

/-- The high address byte forms the word address, accumulates both bytes, and queues an ERASE, asks for the length of
a WRITE or READ, or destroys the session past the end of the flash (R139, R140). -/
def Obligations.HighAddressByteSetsTheTarget : Prop :=
  ∀ (s : State) (p : Byte), s.WriteAccess .cmdp → s.progMode = true → s.ses.phase = .addrHi →
    let wa := (p.toNat * 256 + s.ses.addrLo.toNat) / 2
    (s.cfg.flashWords ≤ wa →
      exec (.paramAddrHi p) s = .next { s with ptr := s.ptr + 1, ses := Session.idle }) ∧
    (wa < s.cfg.flashWords →
      exec (.paramAddrHi p) s = .next { s with
        ptr := s.ptr + 1
        ses := { s.ses with
          acc := s.ses.acc + s.ses.addrLo + p
          waddr := BitVec.ofNat 16 wa
          phase := if s.ses.cmd = .erase then .eraseReady else .len } })

/-- The length byte of a WRITE is halved, clamped, accumulated raw, and opens the data phase, or finalizes at once
when the word count is zero (R141, R142, R143). -/
def Obligations.LengthByteOfAWrite : Prop :=
  ∀ (s : State) (p : Byte), s.WriteAccess .cmdp → s.progMode = true → s.ses.phase = .len → s.ses.cmd = .write →
    let x : Session := { s.ses with acc := s.ses.acc + p, nwords := min (p.toNat / 2) 32, idx := 0, hi := false }
    (2 ≤ p.toNat → exec (.paramLen p) s = .next { s with ptr := s.ptr + 1, ses := { x with phase := .data } }) ∧
    (p.toNat < 2 → exec (.paramLen p) s = .next { s with
      ptr := s.ptr + 1, ses := { x with phase := .csumOut, csum := -(s.ses.acc + p) } })

/-- The length byte of a READ fills the buffer from the flash at once: the words inside the flash are its words, the
words past its end are any words, the rest of the buffer is kept (R144, R145, with R141). -/
def Obligations.LengthByteOfAReadFillsTheBuffer : Prop :=
  ∀ (s : State) (p : Byte), s.Inv → s.WriteAccess .cmdp → s.progMode = true → s.ses.phase = .len →
    s.ses.cmd = .read →
    let n := min (p.toNat / 2) 32
    let wa := s.ses.waddr.toNat
    ∃ t buf, exec (.paramLen p) s = .next t ∧ buf.length = 32 ∧
      (∀ i, i < n → wa + i < s.cfg.flashWords → buf.getD i 0 = s.flashWord (wa + i)) ∧
      (∀ i, n ≤ i → buf.getD i 0 = s.ses.buf.getD i 0) ∧
      t.ses = { s.ses with
        acc := s.ses.acc + p, nwords := n, idx := 0, hi := false, buf := buf
        phase := if n = 0 then .csumOut else .data
        csum := if n = 0 then -(s.ses.acc + p) else s.ses.csum } ∧
      t.outLog = s.outLog ++ [.readWords wa n] ∧
      { t with ses := s.ses, outLog := s.outLog, draws := s.draws } = { s with ptr := s.ptr + 1 }

/-- A parameter byte or channel write that the phase does not expect is ignored, and such a read delivers the sentinel
(R146, R147, R152). -/
def Obligations.UnexpectedBytesAreIgnored : Prop :=
  ∀ s : State,
    (∀ p : Byte, s.WriteAccess .cmdp → s.progMode = true → s.ses.phase ≠ .addrLo → s.ses.phase ≠ .addrHi →
      s.ses.phase ≠ .len → exec (.paramOther p) s = .next { s with ptr := s.ptr + 1 }) ∧
    (∀ d : Byte, s.WriteAccess .data → ¬ s.ses.InData .write → s.ses.phase ≠ .awaitConfirm →
      exec (.dataWrOther d) s = .next { s with ptr := s.ptr + 1 }) ∧
    (s.ReadAccess .data → ¬ s.ses.InData .read → s.ses.phase ≠ .csumOut →
      exec .dataRdOther s = .next { s with ptr := s.ptr + 1, outLog := s.outLog ++ [.hostRead 0xFF] })

/-- The bytes of a WRITE fill the buffer a word at a time, low byte first; the last word finalizes the checksum (R148,
R149, R150). -/
def Obligations.DataBytesFillTheBuffer : Prop :=
  ∀ (s : State) (d : Byte), s.WriteAccess .data → s.ses.InData .write →
    (s.ses.hi = false →
      exec (.dataWrLo d) s = .next { s with ptr := s.ptr + 1, ses := { s.ses with lo := d, hi := true } }) ∧
    (s.ses.hi = true →
      exec (.dataWrHi d) s = .next { s with
        ptr := s.ptr + 1
        ses := { s.ses with
          buf := s.ses.buf.set s.ses.idx (BitVec.ofNat 16 (d.toNat * 256 + s.ses.lo.toNat))
          acc := s.ses.acc + s.ses.lo + d
          idx := s.ses.idx + 1
          hi := false
          phase := if s.ses.idx + 1 = s.ses.nwords then .csumOut else .data
          csum := if s.ses.idx + 1 = s.ses.nwords then -(s.ses.acc + s.ses.lo + d) else s.ses.csum } })

/-- The confirmation byte queues the write, any other byte abandons it (R151). -/
def Obligations.ConfirmationByteDecides : Prop :=
  ∀ (s : State) (d : Byte), s.WriteAccess .data → s.ses.phase = .awaitConfirm →
    (d = s.cfg.cWrite →
      exec (.dataWrConfirm d) s = .next { s with ptr := s.ptr + 1, ses := { s.ses with phase := .writeReady } }) ∧
    (d ≠ s.cfg.cWrite →
      exec (.dataWrConfirm d) s = .next { s with ptr := s.ptr + 1, ses := Session.idle })

/-- The reads of a READ deliver the buffer a word at a time, low byte first; the last word finalizes the checksum
(R153, R154, R150). -/
def Obligations.DataReadsServeTheBuffer : Prop :=
  ∀ s : State, s.ReadAccess .data → s.ses.InData .read →
    let w := (s.ses.buf.getD s.ses.idx 0).toNat
    let lo : Byte := BitVec.ofNat 8 (w % 256)
    let hi : Byte := BitVec.ofNat 8 (w / 256)
    (s.ses.hi = false →
      exec .dataRdLo s = .next { s with
        ptr := s.ptr + 1, outLog := s.outLog ++ [.hostRead lo], ses := { s.ses with hi := true } }) ∧
    (s.ses.hi = true →
      exec .dataRdHi s = .next { s with
        ptr := s.ptr + 1
        outLog := s.outLog ++ [.hostRead hi]
        ses := { s.ses with
          acc := s.ses.acc + lo + hi
          idx := s.ses.idx + 1
          hi := false
          phase := if s.ses.idx + 1 = s.ses.nwords then .csumOut else .data
          csum := if s.ses.idx + 1 = s.ses.nwords then -(s.ses.acc + lo + hi) else s.ses.csum } })

/-- The checksum byte ends a READ; for a WRITE it queues the write, or waits for the confirmation byte (R155, R156). -/
def Obligations.ChecksumByteIsServed : Prop :=
  ∀ s : State, s.ReadAccess .data → s.ses.phase = .csumOut →
    let t (x : Session) : State :=
      { s with ptr := s.ptr + 1, outLog := s.outLog ++ [.hostRead s.ses.csum], ses := x }
    (s.ses.cmd = .read → exec .dataRdCsum s = .next (t Session.idle)) ∧
    (s.ses.cmd = .write → s.cfg.writeCommit = .afterChecksum →
      exec .dataRdCsum s = .next (t { s.ses with phase := .writeReady })) ∧
    (s.ses.cmd = .write → s.cfg.writeCommit = .afterConfirm →
      exec .dataRdCsum s = .next (t { s.ses with phase := .awaitConfirm }))

/-! ### Main-loop pass and flash -/

/-- A pass with nothing queued changes nothing (R109). -/
def Obligations.IdlePassChangesNothing : Prop :=
  ∀ s : State, s.pend = none → s.ses.phase ≠ .writeReady → s.ses.phase ≠ .eraseReady → exec .tick s = .next s

/-- A pass writes the queued words that the row still holds, at or above the boundary, and no other word; the session
is idle after it (R162, R164, R165, R167, R170; 20_memory.md R66). -/
def Obligations.PassWritesTheQueuedWords : Prop :=
  ∀ s : State, s.Inv → s.pend = none → s.ses.phase = .writeReady →
    let wa := s.ses.waddr.toNat
    let n := min s.ses.nwords (32 - wa % 32)
    ∃ t, exec .tick s = .next t ∧ t.ses = Session.idle ∧
      (∀ a, t.flashWord a =
        if s.cfg.boundary ≤ wa ∧ wa ≤ a ∧ a < wa + n then
          (match s.cfg.flashWriteMode with
            | .overwrite => s.ses.buf.getD (a - wa) 0 &&& s.cfg.wordMask
            | .and => s.flashWord a &&& (s.ses.buf.getD (a - wa) 0 &&& s.cfg.wordMask))
        else s.flashWord a) ∧
      t.outLog = s.outLog ++
        (if s.cfg.boundary ≤ wa ∧ 0 < n then [.writeRow wa (s.ses.buf.take n) n] else []) ∧
      { t with flash := s.flash, ses := s.ses, outLog := s.outLog } = s

/-- A pass erases the whole row of a queued ERASE at or above the boundary, and no other word (R163, R164, R170;
20_memory.md R65). -/
def Obligations.PassErasesTheQueuedRow : Prop :=
  ∀ s : State, s.pend = none → s.ses.phase = .eraseReady →
    let wa := s.ses.waddr.toNat
    let ra := 32 * (wa / 32)
    ∃ t, exec .tick s = .next t ∧ t.ses = Session.idle ∧
      (∀ a, t.flashWord a =
        if s.cfg.boundary ≤ wa ∧ ra ≤ a ∧ a < ra + 32 then s.cfg.erasedWord &&& s.cfg.wordMask
        else s.flashWord a) ∧
      t.outLog = s.outLog ++ (if s.cfg.boundary ≤ wa then [.eraseRow ra] else []) ∧
      { t with flash := s.flash, ses := s.ses, outLog := s.outLog } = s

/-! ### Command dispatcher -/

/-- PROGRAM-ENABLE enters programming mode with an idle session and clears the slot (R179, R177). -/
def Obligations.ProgramEnableEntersProgrammingMode : Prop :=
  ∀ s : State, s.pend = some s.cfg.cProgEn →
    exec .rcmdProgEn s = .next { s with progMode := true, ses := Session.idle, pend := none }

/-- CONFIG-ENABLE and CONFIG-DISABLE set and clear the configuration mode, clear the slot, and change nothing else
(R180, R181, R177). -/
def Obligations.ConfigCommandsSetTheMode : Prop :=
  ∀ s : State, s.Inv →
    (s.pend = some s.cfg.cCfgEn → exec .rcmdCfgEn s = .next { s with cfgMode := true, pend := none }) ∧
    (s.pend = some s.cfg.cCfgDis → exec .rcmdCfgDis s = .next { s with cfgMode := false, pend := none })

/-- CAL-LOAD stores the durable bytes, and CAL-DEFAULT the default bytes, in half 0's calibration range, raw; neither
changes the durable store (R182, R184, R177). -/
def Obligations.CalibrationLoadsFillTheRange : Prop :=
  ∀ s : State, s.Inv →
    (s.pend = some s.cfg.cCalLoad → ∃ t, exec .rcmdCalLoad s = .next t ∧
      (∀ j, t.rfByte j = if s.cfg.calBase ≤ j ∧ j < s.cfg.calBase + s.cfg.calLen
        then s.calStore.getD (j - s.cfg.calBase) 0 else s.rfByte j) ∧
      { t with rf := s.rf } = { s with pend := none, outLog := s.outLog ++ [.restore] }) ∧
    (s.pend = some s.cfg.cCalDefault → ∃ t, exec .rcmdCalDefault s = .next t ∧
      (∀ j, t.rfByte j = if s.cfg.calBase ≤ j ∧ j < s.cfg.calBase + s.cfg.calLen
        then s.cfg.calDefault.getD (j - s.cfg.calBase) 0 else s.rfByte j) ∧
      { t with rf := s.rf } = { s with pend := none })

/-- CAL-STORE persists half 0's calibration range as stored (R183, R177). -/
def Obligations.CalibrationStorePersistsTheRange : Prop :=
  ∀ s : State, s.Inv → s.pend = some s.cfg.cCalStore → ∃ block : List Byte,
    block.length = s.cfg.calLen ∧ (∀ i, i < s.cfg.calLen → block.getD i 0 = s.rfByte (s.cfg.calBase + i)) ∧
    exec .rcmdCalStore s = .next { s with
      calStore := block, outLog := s.outLog ++ [.persist block], pend := none }

/-- ENCRYPTION-ENABLE hands half 0's key block to the derivation and enables or disables the transform by its answer
(R185, R203, R177). -/
def Obligations.EncryptionEnableFollowsTheDerivation : Prop :=
  ∀ s : State, s.Inv → s.pend = some s.cfg.cEncEn → ∃ k : List Byte,
    k.length = 16 ∧ (∀ i, i < 16 → k.getD i 0 = s.rfByte (s.cfg.keyBase + i)) ∧
    exec .rcmdEncEn s = .next { s with
      xkey := if deriveKeyOk s.cfg k = true then some k else none
      outLog := s.outLog ++ [.deriveKey k (deriveKeyOk s.cfg k)]
      pend := none }

/-- A code that is none of the seven is queued like any other, and a pass only clears the slot (R186); in a well-formed
configuration each of the four programming codes is such a code (R187). That a programming code is none of the seven is
read from 92_eei_decisions.md D6 (log entry 26). -/
def Obligations.UnknownRuntimeCodesDoNothing : Prop :=
  ∀ (s : State) (code : Byte),
    (code ≠ s.cfg.cProgEn ∧ code ≠ s.cfg.cCfgEn ∧ code ≠ s.cfg.cCfgDis ∧ code ≠ s.cfg.cCalLoad ∧
      code ≠ s.cfg.cCalStore ∧ code ≠ s.cfg.cCalDefault ∧ code ≠ s.cfg.cEncEn) ∨
    (s.cfg.wf = true ∧
      (code = s.cfg.cErase ∨ code = s.cfg.cWrite ∨ code = s.cfg.cRead ∨ code = s.cfg.cDisable)) →
    (s.WriteAccess .cmd → s.progMode = false →
      exec (.wrCmd code) s = .next { s with pend := some code, ptr := s.ptr + 1 }) ∧
    (s.Inv → s.pend = some code →
      exec (.rcmdOther code) s = .next { s with pend := none } ∧ exec .tick s = .next { s with pend := none })

/-! ### Laws of the whole machine -/

/-- Every step keeps the invariant: block lengths, the flash's canonical form, the transaction flags, the modes, and
the session invariants of R34. -/
def Obligations.EveryStepKeepsTheInvariant : Prop :=
  ∀ s t : State, s.Inv → step s = .next t → t.Inv

/-- Every step keeps the session invariants (R34). -/
def Obligations.SessionInvariantsArePreserved : Prop :=
  ∀ s t : State, SessionInv s.cfg.flashWords s.ses → step s = .next t → SessionInv t.cfg.flashWords t.ses

/-- The state after reset meets the invariant, and a RESET event in it changes only what it draws and the log. Its
configuration, its log and the form of its draws are the model's choices (log entries 3, 5, 6, 7, 9). -/
def Obligations.ResetStateMeetsTheInvariant : Prop :=
  State.reset.Inv ∧ ∃ t, exec .reset State.reset = .next t ∧
    { t with rf := State.reset.rf, draws := State.reset.draws, outLog := State.reset.outLog } = State.reset

/-- The row-policy laws (R168): no flash word below the boundary ever changes, from any state; the log only grows,
every flash call it gains follows the policy, and a step makes at most one flash change. -/
def Obligations.FlashCallsFollowTheRowPolicy : Prop :=
  (∀ (s t : State) (a : Nat), step s = .next t → a < s.cfg.boundary → t.flashWord a = s.flashWord a) ∧
  (∀ s t : State, s.Inv → step s = .next t →
    ∃ new : List Output, t.outLog = s.outLog ++ new ∧ (∀ o ∈ new, o.obeysRowPolicy s.cfg) ∧
      (new.filter Output.isFlashChange).length ≤ 1)

/-- The checksum law: the bytes of a session that has reached its checksum are two address bytes, a length byte and
two bytes a word, and with the checksum they sum to zero (R157). -/
def Obligations.SessionBytesAndChecksumSumToZero : Prop :=
  ∀ (bs : List Byte) (s : State), SessionTrace bs s → s.ses.phase = .csumOut →
    ∃ (aL aH len : Byte) (ds : List Byte), bs = aL :: aH :: len :: ds ∧ ds.length = 2 * s.ses.nwords ∧
      (aL.toNat + aH.toNat + len.toNat + (ds.map BitVec.toNat).sum + s.ses.csum.toNat) % 256 = 0

/-- Device isolation: a byte of a transaction changes no register outside its device's half, and what it does, the
delivered byte among it, does not depend on the registers outside it; a transaction without a device reaches none; the
control registers act alike for both devices (R104). -/
def Obligations.TransactionsStayInTheirHalf : Prop :=
  (∀ s t : State, (∃ rest, s.inbox = .read :: rest ∨ ∃ b, s.inbox = .write b :: rest) → step s = .next t →
    ∀ j, ¬ (s.dev ≠ .none ∧ j / 256 = half s.dev) → t.rfByte j = s.rfByte j) ∧
  (∀ (s t : State) (x : List Byte) (i : Instr), i = .rd ∨ (∃ b, i = .wr b) → x.length = s.rf.length →
    (∀ j, s.dev ≠ .none ∧ j / 256 = half s.dev → x.getD j 0 = s.rfByte j) → exec i s = .next t →
    ∃ u, exec i { s with rf := x } = .next u ∧ { u with rf := t.rf } = t ∧
      ∀ j, s.dev ≠ .none ∧ j / 256 = half s.dev → u.rfByte j = t.rfByte j) ∧
  (∀ (s : State) (g : Region) (d : Dev), g = .cmd ∨ g = .cmdp ∨ g = .data → d ≠ .none →
    (∀ b, s.WriteAccess g → ∃ t, exec (.wr b) s = .next t ∧
      exec (.wr b) { s with dev := d } = .next { t with dev := d }) ∧
    (s.ReadAccess g → ∃ t, exec .rd s = .next t ∧ exec .rd { s with dev := d } = .next { t with dev := d }))

/-- The calibration round trip: what a CAL-STORE stored, a later CAL-LOAD puts back, whatever came between, resets
included, but another CAL-STORE (R190). -/
def Obligations.CalibrationRoundTrip : Prop :=
  ∀ s t u v : State, s.Inv → stepRow s = some .rcmdCalStore → step s = .next t → RunWithoutCalStore t u →
    stepRow u = some .rcmdCalLoad → step u = .next v →
    ∀ i, i < s.cfg.calLen → v.rfByte (s.cfg.calBase + i) = s.rfByte (s.cfg.calBase + i)

/-- Each piece of the spec's state is written only by the rows that the rules name (R19, R22 to R30, R45, R46, R159,
R173), and the model's own `cfg` and `draws` by no row and by the rows that draw. A delivered byte is logged by a read
request alone. -/
def Obligations.EachStatePieceHasItsWriters : Prop :=
  ∀ s t : State, s.Inv → step s = .next t →
    t.cfg = s.cfg ∧
    (t.rf ≠ s.rf → ∃ i, stepRow s = some i ∧ isRegisterFileRow i = true) ∧
    (t.pend ≠ s.pend → ∃ i, stepRow s = some i ∧ isPendingRow i = true) ∧
    (t.ses ≠ s.ses → ∃ i, stepRow s = some i ∧ isSessionRow i = true) ∧
    (t.dev ≠ s.dev ∨ t.dir ≠ s.dir → ∃ i, stepRow s = some i ∧ isTransactionRow i = true) ∧
    (t.expectPtr ≠ s.expectPtr →
      ∃ i, stepRow s = some i ∧ (isTransactionRow i = true ∨ ∃ r, i = .ptr r)) ∧
    (t.flash ≠ s.flash → stepRow s = some .tick) ∧
    (t.calStore ≠ s.calStore → stepRow s = some .rcmdCalStore) ∧
    (t.progMode ≠ s.progMode →
      stepRow s = some .rcmdProgEn ∨ stepRow s = some .pcmdDisable ∨ stepRow s = some .reset) ∧
    (t.cfgMode ≠ s.cfgMode →
      stepRow s = some .rcmdCfgEn ∨ stepRow s = some .rcmdCfgDis ∨ stepRow s = some .reset) ∧
    (t.xkey ≠ s.xkey → stepRow s = some .rcmdEncEn ∨ stepRow s = some .reset) ∧
    (s.ovf = false → t.ovf = true → stepRow s = some .ovf) ∧
    (s.ovf = true → t.ovf = false → stepRow s = some .stop ∨ stepRow s = some .reset) ∧
    (t.ptr ≠ s.ptr →
      ∃ rest, s.inbox = .read :: rest ∨ s.inbox = .reset :: rest ∨ ∃ b, s.inbox = .write b :: rest) ∧
    (t.outLog ≠ s.outLog →
      (∃ rest, s.inbox = .read :: rest) ∨ ∃ i, stepRow s = some i ∧ isRecordRow i = true) ∧
    (t.draws ≠ s.draws → (∃ p, stepRow s = some (.paramLen p)) ∨ stepRow s = some .reset)

/-- A command byte does not read the session it discards, and a runtime command does not read the one it overwrites
(R158, R188). -/
def Obligations.LatestCommandByteWins : Prop :=
  (∀ (s : State) (x : Session) (d : Byte), s.progMode = true →
    exec (.wrCmd d) { s with ses := x } = exec (.wrCmd d) s) ∧
  (∀ (s : State) (p : Option Byte) (d : Byte), s.progMode = false →
    exec (.wrCmd d) { s with pend := p } = exec (.wrCmd d) s)

/-- With no input waiting the next step is the main-loop pass, so a queued action is run and nothing is left queued
(R237, R109; that the step is then a pass is the model's choice, log entry 2). -/
def Obligations.QueuedActionIsRunWhenNothingWaits : Prop :=
  ∀ s : State, s.Inv → s.inbox = [] →
    step s = exec .tick s ∧ ∃ t, exec .tick s = .next t ∧
      t.pend = none ∧ t.ses.phase ≠ .writeReady ∧ t.ses.phase ≠ .eraseReady

/-- No error that the model labels stops the block (R193, R195). It labels a WR or RD only inside a transaction of its
direction: R201's data event after a STOP has no move by R76, which is the model's reading (log entry 10). Where two
labels meet, the model's choice of one is log entries 27 and 28. -/
def Obligations.NoErrorClassStopsTheBlock : Prop :=
  ∀ (i : Instr) (s : State) (e : ErrorClass), errorClass i s = some e → ∃ t, exec i s = .next t

/-- A RESET in the middle of a transaction cuts it: its remaining bytes are ignored, a byte requested in it is the
sentinel, and the next ADDR is taken (70_reset_and_hazards.md R214, 60_exceptions.md R201). A byte against its direction
has no move (R76). How the model keeps that the transaction is cut is its own choice (log entry 15). -/
def Obligations.BytesOfACutTransactionAreIgnored : Prop :=
  ∀ (s : State) (rest : List Event), s.cfg.wf = true →
    (s.inbox = .reset :: rest → s.bus = .ours → s.dir ≠ .none →
      ∃ t, step s = .next t ∧ t.dir = .none ∧ t.inbox = rest ∧
        t.bus = (if s.dir = .w then .cutWrite else .cutRead)) ∧
    (∀ b, s.inbox = .write b :: rest →
      (s.bus = .cutWrite → step s = .next { s with inbox := rest }) ∧
      (s.bus = .cutRead → s.dir = .none → step s = .refused .hostGrammar)) ∧
    (s.inbox = .read :: rest →
      (s.bus = .cutRead → step s = .next { s with inbox := rest, outLog := s.outLog ++ [.hostRead 0xFF] }) ∧
      (s.bus = .cutWrite → s.dir = .none → step s = .refused .hostGrammar)) ∧
    (∀ b, s.bus = .cutWrite ∨ s.bus = .cutRead → s.inbox = .address b :: rest →
      s.cfg.matchesAddr (addressField b) = true →
        step s = exec (if readBit b then .addrR (addressField b) else .addrW (addressField b))
          { s with inbox := rest, bus := .ours })
end

