-- ==== Sys2Proof/Laws/Config.lean ====
section
/-! SUPPORT. What a well-formed configuration gives (00_scope.md R12). -/

namespace Sys2Proof

theorem allDistinct_iff (l : List Byte) : allDistinct l = true ↔ l.Nodup := by
  induction l with
  | nil => simp [allDistinct]
  | cons b l ih => simp [allDistinct, ih]

/-- Disjoint ranges share no address. -/
theorem RegRange.disjoint_iff (p q : RegRange) :
    p.disjoint q = true ↔ ∀ a, ¬ (p.base ≤ a ∧ a < p.base + p.len ∧ q.base ≤ a ∧ a < q.base + q.len) := by
  simp only [RegRange.disjoint, Bool.or_eq_true, beq_iff_eq, decide_eq_true_eq]
  constructor
  · rintro h a ⟨h1, h2, h3, h4⟩
    omega
  · intro h
    by_contra hn
    exact h (max p.base q.base) (by omega)

theorem rangesFit_iff (l : List RegRange) :
    rangesFit l = true ↔ (∀ p ∈ l, p.base + p.len ≤ 256) ∧ l.Pairwise (fun p q => p.disjoint q = true) := by
  induction l with
  | nil => simp [rangesFit]
  | cons p l ih =>
    simp only [rangesFit, Bool.and_eq_true, ih, List.mem_cons, forall_eq_or_imp, List.pairwise_cons, List.all_eq_true,
      RegRange.inHalf, decide_eq_true_eq]
    tauto

/-- The parts of `Config.wf`, by name. -/
theorem Config.wf_iff (c : Config) :
    c.wf = true ↔ c.check1 = true ∧ c.check2 = true ∧ c.check3 = true ∧ c.check4 = true ∧ c.check5 = true ∧
      c.check6 = true ∧ c.check7 = true ∧ c.check8 = true ∧ c.check9 = true ∧ c.check10 = true ∧ c.check11 = true ∧
      c.checkCodes = true ∧ c.checkCalLen = true ∧ c.checkIds = true := by
  simp only [Config.wf, Bool.and_eq_true]

/-- The numbers a well-formed configuration bounds. -/
structure Config.Bounds (c : Config) : Prop where
  calRange : c.calBase + c.calLen ≤ 256
  keyRange : c.keyBase + 16 ≤ 256
  cmdRange : c.cmdReg + 4 ≤ 256
  idRange : c.idBase + 6 ≤ 256
  calDefaultLength : c.calDefault.length = c.calLen
  boundaryRow : c.boundary % rowWords = 0
  flashRow : c.flashWords % rowWords = 0
  boundaryInFlash : c.boundary ≤ c.flashWords

theorem Config.bounds {c : Config} (h : c.wf = true) : c.Bounds := by
  obtain ⟨-, -, h3, -, -, -, h7, h8, h9, -, h11, -⟩ := (Config.wf_iff c).mp h
  have h3 := ((rangesFit_iff _).mp h3).1
  simp only [Config.runtimeRanges, List.mem_cons, List.not_mem_nil, or_false, forall_eq_or_imp, forall_eq] at h3
  simp only [Config.check7, Config.check8, Config.check9, Config.check11, beq_iff_eq, Bool.and_eq_true,
    decide_eq_true_eq] at h7 h8 h9 h11
  exact ⟨h3.2.1, h3.2.2.1, h3.2.2.2.1, h3.2.2.2.2.2, h11, h7, h8, h9.1⟩

/-- A programming code is none of the seven runtime codes (44_command_dispatcher.md R187). -/
theorem Config.progCode_not_runtime {c : Config} (h : c.wf = true) {b : Byte} (hb : b ∈ c.progCodes) :
    b ∉ c.runtimeCodes := by
  obtain ⟨-, -, -, -, -, -, -, -, -, -, -, hc, -⟩ := (Config.wf_iff c).mp h
  exact List.disjoint_of_nodup_append ((allDistinct_iff _).mp hc) hb

theorem Config.cap_ge (c : Config) : 256 ≤ c.cap := by
  unfold Config.cap; split <;> omega

theorem Config.cap_dual {c : Config} (h : c.dual = true) : c.cap = 512 := by simp [Config.cap, h]

/-- The reference configuration passes every check (R12). -/
theorem reference_wf : Config.reference.wf = true := by decide

end Sys2Proof
end

