-- ==== Sys2Proof/Laws/Decode.lean ====
section
/-! SUPPORT. The ADDRESS byte: its fields and its assembly are inverse (30_encoding.md R72). -/

namespace Sys2Proof

theorem addressField_addressByte (a : BusAddr) (rw : Bool) : addressField (addressByte a rw) = a := by
  revert a rw; decide

theorem readBit_addressByte (a : BusAddr) (rw : Bool) : readBit (addressByte a rw) = rw := by
  revert a rw; decide

theorem addressByte_fields (b : Byte) : addressByte (addressField b) (readBit b) = b := by
  revert b; decide

/-- The address field is the address: `b / 2`. -/
theorem toNat_addressField (b : Byte) : (addressField b).toNat = b.toNat / 2 := by
  revert b; decide

end Sys2Proof
end

