-- ==== Sys2Proof/Laws/State.lean ====
section
/-! SUPPORT. One lemma per field per update of the state: no later proof unfolds a record update. -/

namespace Sys2Proof.Machine

open Sys2Proof

section
variable (s : State) (o : Output)
@[simp] theorem State.signal_cfg : (s.signal o).cfg = s.cfg := rfl
@[simp] theorem State.signal_rf : (s.signal o).rf = s.rf := rfl
@[simp] theorem State.signal_ptr : (s.signal o).ptr = s.ptr := rfl
@[simp] theorem State.signal_dev : (s.signal o).dev = s.dev := rfl
@[simp] theorem State.signal_dir : (s.signal o).dir = s.dir := rfl
@[simp] theorem State.signal_expectPtr : (s.signal o).expectPtr = s.expectPtr := rfl
@[simp] theorem State.signal_ovf : (s.signal o).ovf = s.ovf := rfl
@[simp] theorem State.signal_progMode : (s.signal o).progMode = s.progMode := rfl
@[simp] theorem State.signal_cfgMode : (s.signal o).cfgMode = s.cfgMode := rfl
@[simp] theorem State.signal_xkey : (s.signal o).xkey = s.xkey := rfl
@[simp] theorem State.signal_pend : (s.signal o).pend = s.pend := rfl
@[simp] theorem State.signal_ses : (s.signal o).ses = s.ses := rfl
@[simp] theorem State.signal_flash : (s.signal o).flash = s.flash := rfl
@[simp] theorem State.signal_calStore : (s.signal o).calStore = s.calStore := rfl
@[simp] theorem State.signal_outLog : (s.signal o).outLog = s.outLog ++ [o] := rfl
@[simp] theorem State.signal_inbox : (s.signal o).inbox = s.inbox := rfl
@[simp] theorem State.signal_bus : (s.signal o).bus = s.bus := rfl
@[simp] theorem State.signal_draws : (s.signal o).draws = s.draws := rfl
end

section
variable (s : State) (r : Byte)
@[simp] theorem State.setPtr_cfg : (s.setPtr r).cfg = s.cfg := rfl
@[simp] theorem State.setPtr_rf : (s.setPtr r).rf = s.rf := rfl
@[simp] theorem State.setPtr_ptr : (s.setPtr r).ptr = r := rfl
@[simp] theorem State.setPtr_dev : (s.setPtr r).dev = s.dev := rfl
@[simp] theorem State.setPtr_dir : (s.setPtr r).dir = s.dir := rfl
@[simp] theorem State.setPtr_expectPtr : (s.setPtr r).expectPtr = s.expectPtr := rfl
@[simp] theorem State.setPtr_ovf : (s.setPtr r).ovf = s.ovf := rfl
@[simp] theorem State.setPtr_progMode : (s.setPtr r).progMode = s.progMode := rfl
@[simp] theorem State.setPtr_cfgMode : (s.setPtr r).cfgMode = s.cfgMode := rfl
@[simp] theorem State.setPtr_xkey : (s.setPtr r).xkey = s.xkey := rfl
@[simp] theorem State.setPtr_pend : (s.setPtr r).pend = s.pend := rfl
@[simp] theorem State.setPtr_ses : (s.setPtr r).ses = s.ses := rfl
@[simp] theorem State.setPtr_flash : (s.setPtr r).flash = s.flash := rfl
@[simp] theorem State.setPtr_calStore : (s.setPtr r).calStore = s.calStore := rfl
@[simp] theorem State.setPtr_outLog : (s.setPtr r).outLog = s.outLog := rfl
@[simp] theorem State.setPtr_inbox : (s.setPtr r).inbox = s.inbox := rfl
@[simp] theorem State.setPtr_bus : (s.setPtr r).bus = s.bus := rfl
@[simp] theorem State.setPtr_draws : (s.setPtr r).draws = s.draws := rfl
end

section
variable (s : State) (x : Session)
@[simp] theorem State.setSes_cfg : (s.setSes x).cfg = s.cfg := rfl
@[simp] theorem State.setSes_rf : (s.setSes x).rf = s.rf := rfl
@[simp] theorem State.setSes_ptr : (s.setSes x).ptr = s.ptr := rfl
@[simp] theorem State.setSes_dev : (s.setSes x).dev = s.dev := rfl
@[simp] theorem State.setSes_dir : (s.setSes x).dir = s.dir := rfl
@[simp] theorem State.setSes_expectPtr : (s.setSes x).expectPtr = s.expectPtr := rfl
@[simp] theorem State.setSes_ovf : (s.setSes x).ovf = s.ovf := rfl
@[simp] theorem State.setSes_progMode : (s.setSes x).progMode = s.progMode := rfl
@[simp] theorem State.setSes_cfgMode : (s.setSes x).cfgMode = s.cfgMode := rfl
@[simp] theorem State.setSes_xkey : (s.setSes x).xkey = s.xkey := rfl
@[simp] theorem State.setSes_pend : (s.setSes x).pend = s.pend := rfl
@[simp] theorem State.setSes_ses : (s.setSes x).ses = x := rfl
@[simp] theorem State.setSes_flash : (s.setSes x).flash = s.flash := rfl
@[simp] theorem State.setSes_calStore : (s.setSes x).calStore = s.calStore := rfl
@[simp] theorem State.setSes_outLog : (s.setSes x).outLog = s.outLog := rfl
@[simp] theorem State.setSes_inbox : (s.setSes x).inbox = s.inbox := rfl
@[simp] theorem State.setSes_bus : (s.setSes x).bus = s.bus := rfl
@[simp] theorem State.setSes_draws : (s.setSes x).draws = s.draws := rfl
end

section
variable (s : State) (bs : List Byte)
@[simp] theorem State.setRf_cfg : (s.setRf bs).cfg = s.cfg := rfl
@[simp] theorem State.setRf_rf : (s.setRf bs).rf = bs := rfl
@[simp] theorem State.setRf_ptr : (s.setRf bs).ptr = s.ptr := rfl
@[simp] theorem State.setRf_dev : (s.setRf bs).dev = s.dev := rfl
@[simp] theorem State.setRf_dir : (s.setRf bs).dir = s.dir := rfl
@[simp] theorem State.setRf_expectPtr : (s.setRf bs).expectPtr = s.expectPtr := rfl
@[simp] theorem State.setRf_ovf : (s.setRf bs).ovf = s.ovf := rfl
@[simp] theorem State.setRf_progMode : (s.setRf bs).progMode = s.progMode := rfl
@[simp] theorem State.setRf_cfgMode : (s.setRf bs).cfgMode = s.cfgMode := rfl
@[simp] theorem State.setRf_xkey : (s.setRf bs).xkey = s.xkey := rfl
@[simp] theorem State.setRf_pend : (s.setRf bs).pend = s.pend := rfl
@[simp] theorem State.setRf_ses : (s.setRf bs).ses = s.ses := rfl
@[simp] theorem State.setRf_flash : (s.setRf bs).flash = s.flash := rfl
@[simp] theorem State.setRf_calStore : (s.setRf bs).calStore = s.calStore := rfl
@[simp] theorem State.setRf_outLog : (s.setRf bs).outLog = s.outLog := rfl
@[simp] theorem State.setRf_inbox : (s.setRf bs).inbox = s.inbox := rfl
@[simp] theorem State.setRf_bus : (s.setRf bs).bus = s.bus := rfl
@[simp] theorem State.setRf_draws : (s.setRf bs).draws = s.draws := rfl
end

section
variable (s : State) (p : Option Byte)
@[simp] theorem State.setPend_cfg : (s.setPend p).cfg = s.cfg := rfl
@[simp] theorem State.setPend_rf : (s.setPend p).rf = s.rf := rfl
@[simp] theorem State.setPend_ptr : (s.setPend p).ptr = s.ptr := rfl
@[simp] theorem State.setPend_dev : (s.setPend p).dev = s.dev := rfl
@[simp] theorem State.setPend_dir : (s.setPend p).dir = s.dir := rfl
@[simp] theorem State.setPend_expectPtr : (s.setPend p).expectPtr = s.expectPtr := rfl
@[simp] theorem State.setPend_ovf : (s.setPend p).ovf = s.ovf := rfl
@[simp] theorem State.setPend_progMode : (s.setPend p).progMode = s.progMode := rfl
@[simp] theorem State.setPend_cfgMode : (s.setPend p).cfgMode = s.cfgMode := rfl
@[simp] theorem State.setPend_xkey : (s.setPend p).xkey = s.xkey := rfl
@[simp] theorem State.setPend_pend : (s.setPend p).pend = p := rfl
@[simp] theorem State.setPend_ses : (s.setPend p).ses = s.ses := rfl
@[simp] theorem State.setPend_flash : (s.setPend p).flash = s.flash := rfl
@[simp] theorem State.setPend_calStore : (s.setPend p).calStore = s.calStore := rfl
@[simp] theorem State.setPend_outLog : (s.setPend p).outLog = s.outLog := rfl
@[simp] theorem State.setPend_inbox : (s.setPend p).inbox = s.inbox := rfl
@[simp] theorem State.setPend_bus : (s.setPend p).bus = s.bus := rfl
@[simp] theorem State.setPend_draws : (s.setPend p).draws = s.draws := rfl
end

section
variable (s : State) (m : Bool)
@[simp] theorem State.setProgMode_cfg : (s.setProgMode m).cfg = s.cfg := rfl
@[simp] theorem State.setProgMode_rf : (s.setProgMode m).rf = s.rf := rfl
@[simp] theorem State.setProgMode_ptr : (s.setProgMode m).ptr = s.ptr := rfl
@[simp] theorem State.setProgMode_dev : (s.setProgMode m).dev = s.dev := rfl
@[simp] theorem State.setProgMode_dir : (s.setProgMode m).dir = s.dir := rfl
@[simp] theorem State.setProgMode_expectPtr : (s.setProgMode m).expectPtr = s.expectPtr := rfl
@[simp] theorem State.setProgMode_ovf : (s.setProgMode m).ovf = s.ovf := rfl
@[simp] theorem State.setProgMode_progMode : (s.setProgMode m).progMode = m := rfl
@[simp] theorem State.setProgMode_cfgMode : (s.setProgMode m).cfgMode = s.cfgMode := rfl
@[simp] theorem State.setProgMode_xkey : (s.setProgMode m).xkey = s.xkey := rfl
@[simp] theorem State.setProgMode_pend : (s.setProgMode m).pend = s.pend := rfl
@[simp] theorem State.setProgMode_ses : (s.setProgMode m).ses = s.ses := rfl
@[simp] theorem State.setProgMode_flash : (s.setProgMode m).flash = s.flash := rfl
@[simp] theorem State.setProgMode_calStore : (s.setProgMode m).calStore = s.calStore := rfl
@[simp] theorem State.setProgMode_outLog : (s.setProgMode m).outLog = s.outLog := rfl
@[simp] theorem State.setProgMode_inbox : (s.setProgMode m).inbox = s.inbox := rfl
@[simp] theorem State.setProgMode_bus : (s.setProgMode m).bus = s.bus := rfl
@[simp] theorem State.setProgMode_draws : (s.setProgMode m).draws = s.draws := rfl
end

section
variable (s : State) (m : Bool)
@[simp] theorem State.setCfgMode_cfg : (s.setCfgMode m).cfg = s.cfg := rfl
@[simp] theorem State.setCfgMode_rf : (s.setCfgMode m).rf = s.rf := rfl
@[simp] theorem State.setCfgMode_ptr : (s.setCfgMode m).ptr = s.ptr := rfl
@[simp] theorem State.setCfgMode_dev : (s.setCfgMode m).dev = s.dev := rfl
@[simp] theorem State.setCfgMode_dir : (s.setCfgMode m).dir = s.dir := rfl
@[simp] theorem State.setCfgMode_expectPtr : (s.setCfgMode m).expectPtr = s.expectPtr := rfl
@[simp] theorem State.setCfgMode_ovf : (s.setCfgMode m).ovf = s.ovf := rfl
@[simp] theorem State.setCfgMode_progMode : (s.setCfgMode m).progMode = s.progMode := rfl
@[simp] theorem State.setCfgMode_cfgMode : (s.setCfgMode m).cfgMode = m := rfl
@[simp] theorem State.setCfgMode_xkey : (s.setCfgMode m).xkey = s.xkey := rfl
@[simp] theorem State.setCfgMode_pend : (s.setCfgMode m).pend = s.pend := rfl
@[simp] theorem State.setCfgMode_ses : (s.setCfgMode m).ses = s.ses := rfl
@[simp] theorem State.setCfgMode_flash : (s.setCfgMode m).flash = s.flash := rfl
@[simp] theorem State.setCfgMode_calStore : (s.setCfgMode m).calStore = s.calStore := rfl
@[simp] theorem State.setCfgMode_outLog : (s.setCfgMode m).outLog = s.outLog := rfl
@[simp] theorem State.setCfgMode_inbox : (s.setCfgMode m).inbox = s.inbox := rfl
@[simp] theorem State.setCfgMode_bus : (s.setCfgMode m).bus = s.bus := rfl
@[simp] theorem State.setCfgMode_draws : (s.setCfgMode m).draws = s.draws := rfl
end

section
variable (s : State) (k : Option (List Byte))
@[simp] theorem State.setXkey_cfg : (s.setXkey k).cfg = s.cfg := rfl
@[simp] theorem State.setXkey_rf : (s.setXkey k).rf = s.rf := rfl
@[simp] theorem State.setXkey_ptr : (s.setXkey k).ptr = s.ptr := rfl
@[simp] theorem State.setXkey_dev : (s.setXkey k).dev = s.dev := rfl
@[simp] theorem State.setXkey_dir : (s.setXkey k).dir = s.dir := rfl
@[simp] theorem State.setXkey_expectPtr : (s.setXkey k).expectPtr = s.expectPtr := rfl
@[simp] theorem State.setXkey_ovf : (s.setXkey k).ovf = s.ovf := rfl
@[simp] theorem State.setXkey_progMode : (s.setXkey k).progMode = s.progMode := rfl
@[simp] theorem State.setXkey_cfgMode : (s.setXkey k).cfgMode = s.cfgMode := rfl
@[simp] theorem State.setXkey_xkey : (s.setXkey k).xkey = k := rfl
@[simp] theorem State.setXkey_pend : (s.setXkey k).pend = s.pend := rfl
@[simp] theorem State.setXkey_ses : (s.setXkey k).ses = s.ses := rfl
@[simp] theorem State.setXkey_flash : (s.setXkey k).flash = s.flash := rfl
@[simp] theorem State.setXkey_calStore : (s.setXkey k).calStore = s.calStore := rfl
@[simp] theorem State.setXkey_outLog : (s.setXkey k).outLog = s.outLog := rfl
@[simp] theorem State.setXkey_inbox : (s.setXkey k).inbox = s.inbox := rfl
@[simp] theorem State.setXkey_bus : (s.setXkey k).bus = s.bus := rfl
@[simp] theorem State.setXkey_draws : (s.setXkey k).draws = s.draws := rfl
end

section
variable (s : State) (m : List FlashCell)
@[simp] theorem State.setFlash_cfg : (s.setFlash m).cfg = s.cfg := rfl
@[simp] theorem State.setFlash_rf : (s.setFlash m).rf = s.rf := rfl
@[simp] theorem State.setFlash_ptr : (s.setFlash m).ptr = s.ptr := rfl
@[simp] theorem State.setFlash_dev : (s.setFlash m).dev = s.dev := rfl
@[simp] theorem State.setFlash_dir : (s.setFlash m).dir = s.dir := rfl
@[simp] theorem State.setFlash_expectPtr : (s.setFlash m).expectPtr = s.expectPtr := rfl
@[simp] theorem State.setFlash_ovf : (s.setFlash m).ovf = s.ovf := rfl
@[simp] theorem State.setFlash_progMode : (s.setFlash m).progMode = s.progMode := rfl
@[simp] theorem State.setFlash_cfgMode : (s.setFlash m).cfgMode = s.cfgMode := rfl
@[simp] theorem State.setFlash_xkey : (s.setFlash m).xkey = s.xkey := rfl
@[simp] theorem State.setFlash_pend : (s.setFlash m).pend = s.pend := rfl
@[simp] theorem State.setFlash_ses : (s.setFlash m).ses = s.ses := rfl
@[simp] theorem State.setFlash_flash : (s.setFlash m).flash = m := rfl
@[simp] theorem State.setFlash_calStore : (s.setFlash m).calStore = s.calStore := rfl
@[simp] theorem State.setFlash_outLog : (s.setFlash m).outLog = s.outLog := rfl
@[simp] theorem State.setFlash_inbox : (s.setFlash m).inbox = s.inbox := rfl
@[simp] theorem State.setFlash_bus : (s.setFlash m).bus = s.bus := rfl
@[simp] theorem State.setFlash_draws : (s.setFlash m).draws = s.draws := rfl
end

section
variable (s : State) (bs : List Byte)
@[simp] theorem State.setCalStore_cfg : (s.setCalStore bs).cfg = s.cfg := rfl
@[simp] theorem State.setCalStore_rf : (s.setCalStore bs).rf = s.rf := rfl
@[simp] theorem State.setCalStore_ptr : (s.setCalStore bs).ptr = s.ptr := rfl
@[simp] theorem State.setCalStore_dev : (s.setCalStore bs).dev = s.dev := rfl
@[simp] theorem State.setCalStore_dir : (s.setCalStore bs).dir = s.dir := rfl
@[simp] theorem State.setCalStore_expectPtr : (s.setCalStore bs).expectPtr = s.expectPtr := rfl
@[simp] theorem State.setCalStore_ovf : (s.setCalStore bs).ovf = s.ovf := rfl
@[simp] theorem State.setCalStore_progMode : (s.setCalStore bs).progMode = s.progMode := rfl
@[simp] theorem State.setCalStore_cfgMode : (s.setCalStore bs).cfgMode = s.cfgMode := rfl
@[simp] theorem State.setCalStore_xkey : (s.setCalStore bs).xkey = s.xkey := rfl
@[simp] theorem State.setCalStore_pend : (s.setCalStore bs).pend = s.pend := rfl
@[simp] theorem State.setCalStore_ses : (s.setCalStore bs).ses = s.ses := rfl
@[simp] theorem State.setCalStore_flash : (s.setCalStore bs).flash = s.flash := rfl
@[simp] theorem State.setCalStore_calStore : (s.setCalStore bs).calStore = bs := rfl
@[simp] theorem State.setCalStore_outLog : (s.setCalStore bs).outLog = s.outLog := rfl
@[simp] theorem State.setCalStore_inbox : (s.setCalStore bs).inbox = s.inbox := rfl
@[simp] theorem State.setCalStore_bus : (s.setCalStore bs).bus = s.bus := rfl
@[simp] theorem State.setCalStore_draws : (s.setCalStore bs).draws = s.draws := rfl
end

section
variable (s : State) (n : Nat)
@[simp] theorem State.takeDraws_cfg : (s.takeDraws n).cfg = s.cfg := rfl
@[simp] theorem State.takeDraws_rf : (s.takeDraws n).rf = s.rf := rfl
@[simp] theorem State.takeDraws_ptr : (s.takeDraws n).ptr = s.ptr := rfl
@[simp] theorem State.takeDraws_dev : (s.takeDraws n).dev = s.dev := rfl
@[simp] theorem State.takeDraws_dir : (s.takeDraws n).dir = s.dir := rfl
@[simp] theorem State.takeDraws_expectPtr : (s.takeDraws n).expectPtr = s.expectPtr := rfl
@[simp] theorem State.takeDraws_ovf : (s.takeDraws n).ovf = s.ovf := rfl
@[simp] theorem State.takeDraws_progMode : (s.takeDraws n).progMode = s.progMode := rfl
@[simp] theorem State.takeDraws_cfgMode : (s.takeDraws n).cfgMode = s.cfgMode := rfl
@[simp] theorem State.takeDraws_xkey : (s.takeDraws n).xkey = s.xkey := rfl
@[simp] theorem State.takeDraws_pend : (s.takeDraws n).pend = s.pend := rfl
@[simp] theorem State.takeDraws_ses : (s.takeDraws n).ses = s.ses := rfl
@[simp] theorem State.takeDraws_flash : (s.takeDraws n).flash = s.flash := rfl
@[simp] theorem State.takeDraws_calStore : (s.takeDraws n).calStore = s.calStore := rfl
@[simp] theorem State.takeDraws_outLog : (s.takeDraws n).outLog = s.outLog := rfl
@[simp] theorem State.takeDraws_inbox : (s.takeDraws n).inbox = s.inbox := rfl
@[simp] theorem State.takeDraws_bus : (s.takeDraws n).bus = s.bus := rfl
@[simp] theorem State.takeDraws_draws : (s.takeDraws n).draws = s.draws + n := rfl
end

section
variable (s : State) (d : Dev) (x : Dir) (e : Bool)
@[simp] theorem State.setTransaction_cfg : (s.setTransaction d x e).cfg = s.cfg := rfl
@[simp] theorem State.setTransaction_rf : (s.setTransaction d x e).rf = s.rf := rfl
@[simp] theorem State.setTransaction_ptr : (s.setTransaction d x e).ptr = s.ptr := rfl
@[simp] theorem State.setTransaction_dev : (s.setTransaction d x e).dev = d := rfl
@[simp] theorem State.setTransaction_dir : (s.setTransaction d x e).dir = x := rfl
@[simp] theorem State.setTransaction_expectPtr : (s.setTransaction d x e).expectPtr = e := rfl
@[simp] theorem State.setTransaction_ovf : (s.setTransaction d x e).ovf = s.ovf := rfl
@[simp] theorem State.setTransaction_progMode : (s.setTransaction d x e).progMode = s.progMode := rfl
@[simp] theorem State.setTransaction_cfgMode : (s.setTransaction d x e).cfgMode = s.cfgMode := rfl
@[simp] theorem State.setTransaction_xkey : (s.setTransaction d x e).xkey = s.xkey := rfl
@[simp] theorem State.setTransaction_pend : (s.setTransaction d x e).pend = s.pend := rfl
@[simp] theorem State.setTransaction_ses : (s.setTransaction d x e).ses = s.ses := rfl
@[simp] theorem State.setTransaction_flash : (s.setTransaction d x e).flash = s.flash := rfl
@[simp] theorem State.setTransaction_calStore : (s.setTransaction d x e).calStore = s.calStore := rfl
@[simp] theorem State.setTransaction_outLog : (s.setTransaction d x e).outLog = s.outLog := rfl
@[simp] theorem State.setTransaction_inbox : (s.setTransaction d x e).inbox = s.inbox := rfl
@[simp] theorem State.setTransaction_bus : (s.setTransaction d x e).bus = s.bus := rfl
@[simp] theorem State.setTransaction_draws : (s.setTransaction d x e).draws = s.draws := rfl
end

section
variable (s : State) (v : Bool)
@[simp] theorem State.setOvf_cfg : (s.setOvf v).cfg = s.cfg := rfl
@[simp] theorem State.setOvf_rf : (s.setOvf v).rf = s.rf := rfl
@[simp] theorem State.setOvf_ptr : (s.setOvf v).ptr = s.ptr := rfl
@[simp] theorem State.setOvf_dev : (s.setOvf v).dev = s.dev := rfl
@[simp] theorem State.setOvf_dir : (s.setOvf v).dir = s.dir := rfl
@[simp] theorem State.setOvf_expectPtr : (s.setOvf v).expectPtr = s.expectPtr := rfl
@[simp] theorem State.setOvf_ovf : (s.setOvf v).ovf = v := rfl
@[simp] theorem State.setOvf_progMode : (s.setOvf v).progMode = s.progMode := rfl
@[simp] theorem State.setOvf_cfgMode : (s.setOvf v).cfgMode = s.cfgMode := rfl
@[simp] theorem State.setOvf_xkey : (s.setOvf v).xkey = s.xkey := rfl
@[simp] theorem State.setOvf_pend : (s.setOvf v).pend = s.pend := rfl
@[simp] theorem State.setOvf_ses : (s.setOvf v).ses = s.ses := rfl
@[simp] theorem State.setOvf_flash : (s.setOvf v).flash = s.flash := rfl
@[simp] theorem State.setOvf_calStore : (s.setOvf v).calStore = s.calStore := rfl
@[simp] theorem State.setOvf_outLog : (s.setOvf v).outLog = s.outLog := rfl
@[simp] theorem State.setOvf_inbox : (s.setOvf v).inbox = s.inbox := rfl
@[simp] theorem State.setOvf_bus : (s.setOvf v).bus = s.bus := rfl
@[simp] theorem State.setOvf_draws : (s.setOvf v).draws = s.draws := rfl
end

section
variable (s : State) (i : Nat) (b : Byte)
@[simp] theorem State.rfWrite_cfg : (s.rfWrite i b).cfg = s.cfg := rfl
@[simp] theorem State.rfWrite_rf : (s.rfWrite i b).rf = s.rf.set i b := rfl
@[simp] theorem State.rfWrite_ptr : (s.rfWrite i b).ptr = s.ptr := rfl
@[simp] theorem State.rfWrite_dev : (s.rfWrite i b).dev = s.dev := rfl
@[simp] theorem State.rfWrite_dir : (s.rfWrite i b).dir = s.dir := rfl
@[simp] theorem State.rfWrite_expectPtr : (s.rfWrite i b).expectPtr = s.expectPtr := rfl
@[simp] theorem State.rfWrite_ovf : (s.rfWrite i b).ovf = s.ovf := rfl
@[simp] theorem State.rfWrite_progMode : (s.rfWrite i b).progMode = s.progMode := rfl
@[simp] theorem State.rfWrite_cfgMode : (s.rfWrite i b).cfgMode = s.cfgMode := rfl
@[simp] theorem State.rfWrite_xkey : (s.rfWrite i b).xkey = s.xkey := rfl
@[simp] theorem State.rfWrite_pend : (s.rfWrite i b).pend = s.pend := rfl
@[simp] theorem State.rfWrite_ses : (s.rfWrite i b).ses = s.ses := rfl
@[simp] theorem State.rfWrite_flash : (s.rfWrite i b).flash = s.flash := rfl
@[simp] theorem State.rfWrite_calStore : (s.rfWrite i b).calStore = s.calStore := rfl
@[simp] theorem State.rfWrite_outLog : (s.rfWrite i b).outLog = s.outLog := rfl
@[simp] theorem State.rfWrite_inbox : (s.rfWrite i b).inbox = s.inbox := rfl
@[simp] theorem State.rfWrite_bus : (s.rfWrite i b).bus = s.bus := rfl
@[simp] theorem State.rfWrite_draws : (s.rfWrite i b).draws = s.draws := rfl
end

section
variable (s : State) (a : Nat) (vs : List Byte)
@[simp] theorem State.rfStore_cfg : (s.rfStore a vs).cfg = s.cfg := rfl
@[simp] theorem State.rfStore_rf : (s.rfStore a vs).rf = storeBytes s.rf a vs := rfl
@[simp] theorem State.rfStore_ptr : (s.rfStore a vs).ptr = s.ptr := rfl
@[simp] theorem State.rfStore_dev : (s.rfStore a vs).dev = s.dev := rfl
@[simp] theorem State.rfStore_dir : (s.rfStore a vs).dir = s.dir := rfl
@[simp] theorem State.rfStore_expectPtr : (s.rfStore a vs).expectPtr = s.expectPtr := rfl
@[simp] theorem State.rfStore_ovf : (s.rfStore a vs).ovf = s.ovf := rfl
@[simp] theorem State.rfStore_progMode : (s.rfStore a vs).progMode = s.progMode := rfl
@[simp] theorem State.rfStore_cfgMode : (s.rfStore a vs).cfgMode = s.cfgMode := rfl
@[simp] theorem State.rfStore_xkey : (s.rfStore a vs).xkey = s.xkey := rfl
@[simp] theorem State.rfStore_pend : (s.rfStore a vs).pend = s.pend := rfl
@[simp] theorem State.rfStore_ses : (s.rfStore a vs).ses = s.ses := rfl
@[simp] theorem State.rfStore_flash : (s.rfStore a vs).flash = s.flash := rfl
@[simp] theorem State.rfStore_calStore : (s.rfStore a vs).calStore = s.calStore := rfl
@[simp] theorem State.rfStore_outLog : (s.rfStore a vs).outLog = s.outLog := rfl
@[simp] theorem State.rfStore_inbox : (s.rfStore a vs).inbox = s.inbox := rfl
@[simp] theorem State.rfStore_bus : (s.rfStore a vs).bus = s.bus := rfl
@[simp] theorem State.rfStore_draws : (s.rfStore a vs).draws = s.draws := rfl
end

end Sys2Proof.Machine
end

