-- ==== Sys2Proof/Laws/Flash.lean ====
section
/-! SUPPORT. The flash memory: what a word reads after each operation, and the canonical form that every operation
keeps (log entry 7). -/

namespace Sys2Proof.Machine

open Sys2Proof

/-! ### Reading after a store -/

theorem flashGet_append (l m : List FlashCell) (b : Nat) :
    flashGet (l ++ m) b = (flashGet l b).or (flashGet m b) := by
  induction l with
  | nil => rfl
  | cons c l ih =>
    obtain ⟨k, v⟩ := c
    simp only [List.cons_append, flashGet]
    split_ifs with h
    · rfl
    · exact ih

theorem flashGet_filter (p : Nat → Bool) (m : List FlashCell) (b : Nat) :
    flashGet (m.filter (fun c => p c.1)) b = if p b = true then flashGet m b else none := by
  induction m with
  | nil => simp [flashGet]
  | cons c m ih =>
    obtain ⟨k, v⟩ := c
    by_cases hk : p k = true
    · rw [List.filter_cons_of_pos (by exact hk)]
      simp only [flashGet, ih]
      by_cases h : k = b
      · subst h; simp [hk]
      · simp [h]
    · rw [List.filter_cons_of_neg (by exact hk), ih]
      by_cases h : k = b
      · subst h; simp [hk]
      · simp [flashGet, h]

theorem flashGet_cellsFrom (ws : List Word) (a b : Nat) :
    flashGet (cellsFrom a ws) b = if a ≤ b then ws[b - a]? else none := by
  induction ws generalizing a with
  | nil => simp [cellsFrom, flashGet]
  | cons w ws ih =>
    simp only [cellsFrom, flashGet, ih]
    by_cases h : a = b
    · subst h; simp
    · rw [if_neg h]
      by_cases hb : a + 1 ≤ b
      · rw [if_pos hb, if_pos (by omega), show b - a = b - (a + 1) + 1 by omega, List.getElem?_cons_succ]
      · rw [if_neg hb, if_neg (by omega)]

/-- A store gives the stored words in their range and leaves every other cell. -/
theorem flashGet_store (m : List FlashCell) (a b : Nat) (ws : List Word) :
    flashGet (flashStore m a ws) b = if a ≤ b ∧ b < a + ws.length then ws[b - a]? else flashGet m b := by
  rw [flashStore, flashGet_append, flashGet_append, flashGet_cellsFrom,
    flashGet_filter (fun k => decide (k < a)), flashGet_filter (fun k => decide (a + ws.length ≤ k))]
  simp only [decide_eq_true_eq]
  rcases Nat.lt_or_ge b a with h1 | h1
  · rw [if_pos h1, if_neg (show ¬ a ≤ b by omega), if_neg (show ¬ a + ws.length ≤ b by omega),
      if_neg (fun h => absurd h.1 (by omega))]
    simp
  · rw [if_neg (show ¬ b < a by omega), if_pos h1]
    rcases Nat.lt_or_ge b (a + ws.length) with h2 | h2
    · rw [if_neg (show ¬ a + ws.length ≤ b by omega), if_pos ⟨h1, h2⟩]; simp
    · rw [if_pos h2, if_neg (fun h => absurd h.2 (by omega)), List.getElem?_eq_none (by omega)]; simp

/-- After a store the words of the range read as stored, and every other word reads as before. -/
theorem flashRead_store (c : Config) (m : List FlashCell) (a b : Nat) (ws : List Word) :
    flashRead c (flashStore m a ws) b =
      if a ≤ b ∧ b < a + ws.length then ws.getD (b - a) 0 else flashRead c m b := by
  simp only [flashRead, flashGet_store]
  split_ifs with h
  · rw [List.getD_eq_getElem?_getD, List.getElem?_eq_getElem (by omega)]; rfl
  · rfl

theorem programmedWords_length (c : Config) (m : List FlashCell) (ws : List Word) (a : Nat) :
    (programmedWords c m a ws).length = ws.length := by
  induction ws generalizing a with
  | nil => rfl
  | cons w ws ih => simp [programmedWords, ih]

theorem programmedWords_getD (c : Config) (m : List FlashCell) (ws : List Word) (a i : Nat) (h : i < ws.length) :
    (programmedWords c m a ws).getD i 0 = programmedWord c (flashRead c m (a + i)) (ws.getD i 0) := by
  induction ws generalizing a i with
  | nil => simp at h
  | cons w ws ih =>
    cases i with
    | zero => rfl
    | succ i =>
      simp only [programmedWords, List.getD_cons_succ, List.length_cons] at h ⊢
      rw [ih (a + 1) i (by omega), Nat.add_right_comm, Nat.add_assoc]

/-! ### The canonical form -/

theorem flashWfFrom_mono {c : Config} {m : List FlashCell} {lo lo' : Nat} (h : lo' ≤ lo)
    (hm : flashWfFrom c lo m = true) : flashWfFrom c lo' m = true := by
  cases m with
  | nil => rfl
  | cons x m =>
    simp only [flashWfFrom, Bool.and_eq_true, decide_eq_true_eq] at hm ⊢
    exact ⟨⟨⟨Nat.le_trans h hm.1.1.1, hm.1.1.2⟩, hm.1.2⟩, hm.2⟩

theorem flashWfFrom_filter {c : Config} (p : FlashCell → Bool) {m : List FlashCell} {lo : Nat}
    (hm : flashWfFrom c lo m = true) : flashWfFrom c lo (m.filter p) = true := by
  induction m generalizing lo with
  | nil => rfl
  | cons x m ih =>
    simp only [flashWfFrom, Bool.and_eq_true, decide_eq_true_eq] at hm
    rw [List.filter_cons]
    split_ifs
    · simp only [flashWfFrom, Bool.and_eq_true, decide_eq_true_eq]
      exact ⟨hm.1, ih hm.2⟩
    · exact flashWfFrom_mono (Nat.le_succ_of_le hm.1.1.1) (ih hm.2)

/-- The cells at or past an address are canonical from it on. -/
theorem flashWfFrom_filter_ge {c : Config} {m : List FlashCell} {lo : Nat} (hi : Nat)
    (hm : flashWfFrom c lo m = true) :
    flashWfFrom c hi (m.filter (fun x => decide (hi ≤ x.1))) = true := by
  induction m generalizing lo with
  | nil => rfl
  | cons x m ih =>
    simp only [flashWfFrom, Bool.and_eq_true, decide_eq_true_eq] at hm
    by_cases h : hi ≤ x.1
    · rw [List.filter_cons_of_pos (by simpa using h)]
      simp only [flashWfFrom, Bool.and_eq_true, decide_eq_true_eq]
      exact ⟨⟨⟨h, hm.1.1.2⟩, hm.1.2⟩, flashWfFrom_filter _ hm.2⟩
    · rw [List.filter_cons_of_neg (by simpa using h)]
      exact ih hm.2

/-- A canonical list below an address, followed by one that is canonical from it on, is canonical. -/
theorem flashWfFrom_append {c : Config} {l m : List FlashCell} {lo hi : Nat} (hlo : lo ≤ hi)
    (hl : flashWfFrom c lo l = true) (hb : ∀ x ∈ l, x.1 < hi) (hm : flashWfFrom c hi m = true) :
    flashWfFrom c lo (l ++ m) = true := by
  induction l generalizing lo with
  | nil => exact flashWfFrom_mono hlo hm
  | cons x l ih =>
    simp only [flashWfFrom, Bool.and_eq_true, decide_eq_true_eq, List.cons_append] at hl ⊢
    exact ⟨hl.1, ih (hb x List.mem_cons_self) hl.2 (fun y hy => hb y (List.mem_cons_of_mem x hy))⟩

theorem flashWfFrom_cellsFrom {c : Config} {ws : List Word} {a : Nat} (ha : a + ws.length ≤ c.flashWords)
    (hw : ∀ w ∈ ws, w &&& ~~~c.wordMask = 0) : flashWfFrom c a (cellsFrom a ws) = true := by
  induction ws generalizing a with
  | nil => rfl
  | cons w ws ih =>
    simp only [List.length_cons] at ha
    simp only [cellsFrom, flashWfFrom, Bool.and_eq_true, decide_eq_true_eq, beq_iff_eq]
    exact ⟨⟨⟨Nat.le_refl a, by omega⟩, hw w List.mem_cons_self⟩,
      ih (by omega) (fun v hv => hw v (List.mem_cons_of_mem w hv))⟩

theorem cellsFrom_lt (ws : List Word) (a : Nat) : ∀ x ∈ cellsFrom a ws, x.1 < a + ws.length := by
  induction ws generalizing a with
  | nil => simp [cellsFrom]
  | cons w ws ih =>
    intro x hx
    rcases List.mem_cons.mp hx with rfl | hx
    · simp
    · have := ih (a + 1) x hx
      simp only [List.length_cons]
      omega

/-- A store of masked words inside the flash keeps the canonical form. -/
theorem flashWf_store {c : Config} {m : List FlashCell} {a : Nat} {ws : List Word} (ha : a + ws.length ≤ c.flashWords)
    (hw : ∀ w ∈ ws, w &&& ~~~c.wordMask = 0) (hm : flashWfFrom c 0 m = true) :
    flashWfFrom c 0 (flashStore m a ws) = true := by
  rw [flashStore, List.append_assoc]
  refine flashWfFrom_append (Nat.zero_le a) (flashWfFrom_filter _ hm) (fun x hx => ?_)
    (flashWfFrom_append (Nat.le_add_right a ws.length) (flashWfFrom_cellsFrom ha hw) (cellsFrom_lt ws a)
      (flashWfFrom_filter_ge _ hm))
  simpa using (List.mem_filter.mp hx).2

theorem masked_and_not (w m : Word) : (w &&& m) &&& ~~~m = 0 := by
  rw [BitVec.and_assoc, BitVec.and_not_self]; exact BitVec.and_zero

theorem programmedWord_masked (c : Config) (old w : Word) : programmedWord c old w &&& ~~~c.wordMask = 0 := by
  unfold programmedWord
  split
  · exact masked_and_not w c.wordMask
  · rw [← BitVec.and_assoc]; exact masked_and_not (old &&& w) c.wordMask

theorem programmedWords_masked (c : Config) (m : List FlashCell) (ws : List Word) (a : Nat) :
    ∀ w ∈ programmedWords c m a ws, w &&& ~~~c.wordMask = 0 := by
  induction ws generalizing a with
  | nil => simp [programmedWords]
  | cons w ws ih =>
    intro v hv
    rcases List.mem_cons.mp hv with rfl | hv
    · exact programmedWord_masked c _ w
    · exact ih (a + 1) v hv

/-- `MemErase` inside the flash keeps the canonical form. -/
theorem memErase_wf {s : State} {ra : Nat} (h : ra + rowWords ≤ s.cfg.flashWords) (hs : Memory.wf s = true) :
    Memory.wf (memErase ra s) = true :=
  flashWf_store (c := s.cfg) (by simpa [erasedRow] using h)
    (fun w hw => by rw [List.eq_of_mem_replicate hw]; exact masked_and_not _ _) hs

/-- `MemWrite` inside the flash keeps the canonical form. -/
theorem memWrite_wf {s : State} {wa : Nat} {ws : List Word} (h : wa + ws.length ≤ s.cfg.flashWords)
    (hs : Memory.wf s = true) : Memory.wf (memWrite wa ws s) = true :=
  flashWf_store (by rw [programmedWords_length]; exact h) (programmedWords_masked s.cfg s.flash ws wa) hs

/-- Reset's flash has the canonical form. -/
theorem reset_memory_wf : Memory.wf State.reset = true := rfl

/-! ### What the flash calls do -/

/-- `MemErase(ra)` changes the erased row and the log, nothing else (R65). -/
theorem memErase_spec (ra : Nat) (s : State) :
    (memErase ra s).outLog = s.outLog ++ [.eraseRow ra] ∧
    (∀ b, (memErase ra s).flashWord b =
      if ra ≤ b ∧ b < ra + rowWords then s.cfg.erasedWord &&& s.cfg.wordMask else s.flashWord b) ∧
    { memErase ra s with flash := s.flash, outLog := s.outLog } = s := by
  refine ⟨rfl, fun b => ?_, rfl⟩
  have h := flashRead_store s.cfg s.flash ra b (erasedRow s.cfg)
  rw [show (erasedRow s.cfg).length = rowWords from List.length_replicate] at h
  refine h.trans ?_
  split_ifs with hb
  · simp [erasedRow, List.getD_eq_getElem?_getD, show b - ra < rowWords by omega]
  · rfl

/-- `MemWrite(wa, n, words)` changes the written words and the log, nothing else (R66). -/
theorem memWrite_spec (wa : Nat) (ws : List Word) (s : State) :
    (memWrite wa ws s).outLog = s.outLog ++ [.writeRow wa ws ws.length] ∧
    (∀ b, (memWrite wa ws s).flashWord b =
      if wa ≤ b ∧ b < wa + ws.length then programmedWord s.cfg (s.flashWord b) (ws.getD (b - wa) 0)
      else s.flashWord b) ∧
    { memWrite wa ws s with flash := s.flash, outLog := s.outLog } = s := by
  refine ⟨rfl, fun b => ?_, rfl⟩
  have h := flashRead_store s.cfg s.flash wa b (programmedWords s.cfg s.flash wa ws)
  rw [programmedWords_length] at h
  refine h.trans ?_
  split_ifs with hb
  · rw [programmedWords_getD _ _ _ _ _ (by omega), Nat.add_sub_cancel' hb.1]; rfl
  · rfl

/-- The clamped range lies inside one row, and is empty only for an empty write (43_flash_policy.md R165, R167). -/
theorem clampedLength_le (wa n : Nat) :
    clampedLength wa n ≤ n ∧ clampedLength wa n ≤ rowWords - wa % rowWords ∧
      wa + clampedLength wa n ≤ rowStart wa + rowWords ∧ (clampedLength wa n = 0 ↔ n = 0) := by
  unfold clampedLength rowStart rowWords
  omega

/-- The row of a passing target lies between the boundary and the end of the flash (R166). -/
theorem rowStart_bounds {b f wa : Nat} (hb : b % rowWords = 0) (hf : f % rowWords = 0) (h1 : b ≤ wa) (h2 : wa < f) :
    rowStart wa % rowWords = 0 ∧ b ≤ rowStart wa ∧ rowStart wa ≤ wa ∧ wa < rowStart wa + rowWords ∧
      rowStart wa + rowWords ≤ f := by
  unfold rowStart rowWords at *
  omega

end Sys2Proof.Machine
end

