-- ==== Sys2Proof/Laws/PerInstr.lean ====
section
/-! SUPPORT. Facts about every instruction as syntax, one lemma per constructor. -/

namespace Sys2Proof.Laws.EncodedWidth

open Sys2Proof

/-- The number of bytes an instruction's slot carries (20_memory.md R57, 30_encoding.md R71): a byte the host sends or
the application writes, or the pending code; none for a request, a stop, an overflow, a pass or a reset. -/
def width : Slot → Nat
  | .address | .pointer | .write | .appwr _ | .regWrite _ | .progCommand | .param _ | .chanWrite _ | .pending => 1
  | .read | .stop | .ovf | .tick | .reset | .regRead _ | .chanRead _ => 0

/-- Under every configuration an instruction's encoding has exactly the bytes of its slot: one or none. -/
def Statement (i : Instr) : Prop :=
  ∀ c : Config, (encode c i).2.length = width (encode c i).1 ∧ (encode c i).2.length ≤ 1

theorem addrW (a : BusAddr) : Statement (.addrW a) := fun _ => ⟨rfl, Nat.le_refl 1⟩
theorem addrR (a : BusAddr) : Statement (.addrR a) := fun _ => ⟨rfl, Nat.le_refl 1⟩
theorem ptr (r : Byte) : Statement (.ptr r) := fun _ => ⟨rfl, Nat.le_refl 1⟩
theorem wr (d : Byte) : Statement (.wr d) := fun _ => ⟨rfl, Nat.le_refl 1⟩
theorem rd : Statement (.rd) := fun _ => ⟨rfl, Nat.zero_le 1⟩
theorem stop : Statement (.stop) := fun _ => ⟨rfl, Nat.zero_le 1⟩
theorem ovf : Statement (.ovf) := fun _ => ⟨rfl, Nat.zero_le 1⟩
theorem appwr (idx : BitVec 9) (b : Byte) : Statement (.appwr idx b) := fun _ => ⟨rfl, Nat.le_refl 1⟩
theorem tick : Statement (.tick) := fun _ => ⟨rfl, Nat.zero_le 1⟩
theorem reset : Statement (.reset) := fun _ => ⟨rfl, Nat.zero_le 1⟩
theorem wrApp (d : Byte) : Statement (.wrApp d) := fun _ => ⟨rfl, Nat.le_refl 1⟩
theorem wrCal (d : Byte) : Statement (.wrCal d) := fun _ => ⟨rfl, Nat.le_refl 1⟩
theorem wrKey (d : Byte) : Statement (.wrKey d) := fun _ => ⟨rfl, Nat.le_refl 1⟩
theorem wrCmd (d : Byte) : Statement (.wrCmd d) := fun _ => ⟨rfl, Nat.le_refl 1⟩
theorem wrCmdp (d : Byte) : Statement (.wrCmdp d) := fun _ => ⟨rfl, Nat.le_refl 1⟩
theorem wrCustom (d : Byte) : Statement (.wrCustom d) := fun _ => ⟨rfl, Nat.le_refl 1⟩
theorem wrId (d : Byte) : Statement (.wrId d) := fun _ => ⟨rfl, Nat.le_refl 1⟩
theorem wrInvalid (d : Byte) : Statement (.wrInvalid d) := fun _ => ⟨rfl, Nat.le_refl 1⟩
theorem wrData (d : Byte) : Statement (.wrData d) := fun _ => ⟨rfl, Nat.le_refl 1⟩
theorem rdApp : Statement (.rdApp) := fun _ => ⟨rfl, Nat.zero_le 1⟩
theorem rdCal : Statement (.rdCal) := fun _ => ⟨rfl, Nat.zero_le 1⟩
theorem rdKey : Statement (.rdKey) := fun _ => ⟨rfl, Nat.zero_le 1⟩
theorem rdId : Statement (.rdId) := fun _ => ⟨rfl, Nat.zero_le 1⟩
theorem rdCustom : Statement (.rdCustom) := fun _ => ⟨rfl, Nat.zero_le 1⟩
theorem rdCmd : Statement (.rdCmd) := fun _ => ⟨rfl, Nat.zero_le 1⟩
theorem rdCmdp : Statement (.rdCmdp) := fun _ => ⟨rfl, Nat.zero_le 1⟩
theorem rdInvalid : Statement (.rdInvalid) := fun _ => ⟨rfl, Nat.zero_le 1⟩
theorem rdData : Statement (.rdData) := fun _ => ⟨rfl, Nat.zero_le 1⟩
theorem pcmdErase : Statement (.pcmdErase) := fun _ => ⟨rfl, Nat.le_refl 1⟩
theorem pcmdWrite : Statement (.pcmdWrite) := fun _ => ⟨rfl, Nat.le_refl 1⟩
theorem pcmdRead : Statement (.pcmdRead) := fun _ => ⟨rfl, Nat.le_refl 1⟩
theorem pcmdDisable : Statement (.pcmdDisable) := fun _ => ⟨rfl, Nat.le_refl 1⟩
theorem pcmdOther (code : Byte) : Statement (.pcmdOther code) := fun _ => ⟨rfl, Nat.le_refl 1⟩
theorem paramAddrLo (p : Byte) : Statement (.paramAddrLo p) := fun _ => ⟨rfl, Nat.le_refl 1⟩
theorem paramAddrHi (p : Byte) : Statement (.paramAddrHi p) := fun _ => ⟨rfl, Nat.le_refl 1⟩
theorem paramLen (p : Byte) : Statement (.paramLen p) := fun _ => ⟨rfl, Nat.le_refl 1⟩
theorem paramOther (p : Byte) : Statement (.paramOther p) := fun _ => ⟨rfl, Nat.le_refl 1⟩
theorem dataWrLo (d : Byte) : Statement (.dataWrLo d) := fun _ => ⟨rfl, Nat.le_refl 1⟩
theorem dataWrHi (d : Byte) : Statement (.dataWrHi d) := fun _ => ⟨rfl, Nat.le_refl 1⟩
theorem dataWrConfirm (d : Byte) : Statement (.dataWrConfirm d) := fun _ => ⟨rfl, Nat.le_refl 1⟩
theorem dataWrOther (d : Byte) : Statement (.dataWrOther d) := fun _ => ⟨rfl, Nat.le_refl 1⟩
theorem dataRdLo : Statement (.dataRdLo) := fun _ => ⟨rfl, Nat.zero_le 1⟩
theorem dataRdHi : Statement (.dataRdHi) := fun _ => ⟨rfl, Nat.zero_le 1⟩
theorem dataRdCsum : Statement (.dataRdCsum) := fun _ => ⟨rfl, Nat.zero_le 1⟩
theorem dataRdOther : Statement (.dataRdOther) := fun _ => ⟨rfl, Nat.zero_le 1⟩
theorem rcmdProgEn : Statement (.rcmdProgEn) := fun _ => ⟨rfl, Nat.le_refl 1⟩
theorem rcmdCfgEn : Statement (.rcmdCfgEn) := fun _ => ⟨rfl, Nat.le_refl 1⟩
theorem rcmdCfgDis : Statement (.rcmdCfgDis) := fun _ => ⟨rfl, Nat.le_refl 1⟩
theorem rcmdCalLoad : Statement (.rcmdCalLoad) := fun _ => ⟨rfl, Nat.le_refl 1⟩
theorem rcmdCalStore : Statement (.rcmdCalStore) := fun _ => ⟨rfl, Nat.le_refl 1⟩
theorem rcmdCalDefault : Statement (.rcmdCalDefault) := fun _ => ⟨rfl, Nat.le_refl 1⟩
theorem rcmdEncEn : Statement (.rcmdEncEn) := fun _ => ⟨rfl, Nat.le_refl 1⟩
theorem rcmdOther (code : Byte) : Statement (.rcmdOther code) := fun _ => ⟨rfl, Nat.le_refl 1⟩

end Sys2Proof.Laws.EncodedWidth
end

