-- ==== Sys2Proof/Laws/Registers.lean ====
section
/-! SUPPORT. The register file: what a byte reads after each store, lengths, and blocks. -/

namespace Sys2Proof.Machine

open Sys2Proof

/-- One store gives the byte at its index and leaves every other byte. -/
theorem rfByte_rfWrite (s : State) (i j : Nat) (b : Byte) (h : i < s.rf.length) :
    (s.rfWrite i b).rfByte j = if j = i then b else s.rfByte j := by
  unfold State.rfByte
  rw [State.rfWrite_rf, List.getD_eq_getElem?_getD, List.getD_eq_getElem?_getD, List.getElem?_set]
  by_cases hj : i = j
  · subst hj; simp [h]
  · rw [if_neg hj, if_neg (fun e => hj e.symm)]

@[simp] theorem length_storeBytes (bs : List Byte) (a : Nat) (vs : List Byte) :
    (storeBytes bs a vs).length = bs.length := by
  induction vs generalizing bs a with
  | nil => rfl
  | cons v vs ih => rw [storeBytes, ih, List.length_set]

/-- A block store gives the bytes of the range and leaves every other byte. -/
theorem getD_storeBytes (bs : List Byte) (a : Nat) (vs : List Byte) (j : Nat) (h : a + vs.length ≤ bs.length) :
    (storeBytes bs a vs).getD j 0 = if a ≤ j ∧ j < a + vs.length then vs.getD (j - a) 0 else bs.getD j 0 := by
  induction vs generalizing bs a with
  | nil => rw [storeBytes, if_neg (by simp)]
  | cons v vs ih =>
    simp only [List.length_cons] at h ⊢
    rw [storeBytes, ih _ _ (by simp; omega), List.getD_eq_getElem?_getD (l := bs.set a v), List.getElem?_set]
    by_cases hj : a = j
    · subst hj
      rw [if_neg (by omega), if_pos rfl, if_pos (by omega), if_pos (by omega)]
      simp
    · by_cases hr : a + 1 ≤ j ∧ j < a + 1 + vs.length
      · rw [if_pos hr, if_pos (by omega)]
        obtain ⟨k, rfl⟩ : ∃ k, j = a + 1 + k := ⟨j - (a + 1), by omega⟩
        have h1 : a + 1 + k - (a + 1) = k := by omega
        have h2 : a + 1 + k - a = k + 1 := by omega
        rw [h1, h2, List.getD_cons_succ]
      · rw [if_neg hr, if_neg hj, if_neg (by omega), List.getD_eq_getElem?_getD]

/-- A block store in the register file. -/
theorem rfByte_rfStore (s : State) (a : Nat) (vs : List Byte) (j : Nat) (h : a + vs.length ≤ s.rf.length) :
    (s.rfStore a vs).rfByte j = if a ≤ j ∧ j < a + vs.length then vs.getD (j - a) 0 else s.rfByte j :=
  getD_storeBytes s.rf a vs j h

@[simp] theorem length_rfBlock (s : State) (a n : Nat) : (s.rfBlock a n).length = n := by
  simp [State.rfBlock]

@[simp] theorem length_restored (s : State) : (restored s).length = s.cfg.calLen := by simp [restored]

@[simp] theorem length_freeBytes (k n : Nat) : (freeBytes k n).length = n := by simp [freeBytes]

theorem getD_rfBlock (s : State) (a n i : Nat) (h : i < n) : (s.rfBlock a n).getD i 0 = s.rfByte (a + i) := by
  simp [State.rfBlock, List.getD_eq_getElem?_getD, h]

theorem getD_restored (s : State) (i : Nat) (h : i < s.cfg.calLen) : (restored s).getD i 0 = s.calStore.getD i 0 := by
  simp [restored, List.getD_eq_getElem?_getD, h]

/-- What is restored is the store, when it has `CAL_LEN` bytes (20_memory.md R68). -/
theorem restored_eq (s : State) (h : s.calStore.length = s.cfg.calLen) : restored s = s.calStore := by
  apply List.ext_getElem
  · simp [h]
  · intro i h1 h2
    simp [restored, List.getD_eq_getElem?_getD, h2]

/-- The register-file index of a transaction lies in its device's half (41_register_access.md R130). -/
theorem rfIndex_bounds (s : State) : half s.dev * 256 ≤ s.rfIndex ∧ s.rfIndex < half s.dev * 256 + 256 := by
  have := s.ptr.isLt
  unfold State.rfIndex Sys2Proof.Machine.rfIndex
  omega

end Sys2Proof.Machine
end

