-- ==== Sys2Proof/Laws/Rows.lean ====
section
/-! SUPPORT. Rows, accesses and the input: what each shared operation can do, said once. -/

namespace Sys2Proof.Machine

open Sys2Proof

/-! ### Rows -/

/-- A row completes exactly where its selector holds, with its effect. -/
theorem rowWhen_next_iff (b : Bool) (t u : State) : rowWhen b t = .next u ↔ b = true ∧ t = u := by
  unfold rowWhen
  split_ifs with h <;> simp [h]

theorem rowWhen_true {b : Bool} (h : b = true) (t : State) : rowWhen b t = .next t := by simp [rowWhen, h]

theorem rowWhen_not_fault (b : Bool) (t : State) (f : Fault) : rowWhen b t ≠ .fault f := by
  unfold rowWhen
  split_ifs <;> simp

theorem gate_iff (s : State) : gate s = true ↔ s.dev ≠ .none ∧ s.ovf = false := by
  simp [gate]

theorem writesAt_iff (s : State) (g : Region) :
    writesAt s g = true ↔
      s.dev ≠ .none ∧ s.ovf = false ∧ s.dir = .w ∧ s.expectPtr = false ∧ regionOf s.cfg s.progMode s.ptr = g := by
  simp [writesAt, gate, State.region, and_assoc]

theorem readsAt_iff (s : State) (g : Region) :
    readsAt s g = true ↔
      s.dev ≠ .none ∧ s.ovf = false ∧ s.dir = .r ∧ regionOf s.cfg s.progMode s.ptr = g := by
  simp [readsAt, gate, State.region, and_assoc]

/-- After a write only the cursor differs from the handler's result. -/
theorem afterWrite_eq (s t : State) : afterWrite s t = { t with ptr := s.ptr + 1 } := rfl

/-- After a read only the cursor and the log differ from the handler's result. -/
theorem afterRead_eq (s : State) (out : Byte × State) :
    afterRead s out =
      { out.2 with
        ptr := nextR s.cfg s.progMode s.ptr
        outLog := out.2.outLog ++ [.hostRead out.1] } := rfl

/-! ### Regions -/

/-- The data window is decoded in programming mode only (10_state.md R37, R38). -/
theorem progMode_of_region_data {c : Config} {pm : Bool} {r : Byte} (h : regionOf c pm r = .data) : pm = true := by
  unfold regionOf at h
  cases pm <;> simp_all
  split_ifs at h

/-! ### The input -/

/-- Every input that is not another device's traffic decodes. -/
theorem decode_writeSlot (s : State) (c : Config) (b : Byte) : ∃ i, decode c (writeSlot s) [b] = .ok i := by
  unfold writeSlot
  split_ifs
  · exact ⟨_, rfl⟩
  · exact ⟨_, rfl⟩
  · cases s.region <;> exact ⟨_, rfl⟩
  · cases s.region <;> exact ⟨_, rfl⟩

theorem decode_readSlot (s : State) (c : Config) : ∃ i, decode c (readSlot s) [] = .ok i := by
  unfold readSlot
  split_ifs
  · exact ⟨_, rfl⟩
  · split <;> exact ⟨_, rfl⟩

theorem decode_tickInput (s : State) (c : Config) : ∃ i, decode c (tickInput s).1 (tickInput s).2 = .ok i := by
  unfold tickInput
  split <;> exact ⟨_, rfl⟩

/-- Only the input list and the owner of the bus change when an event is taken; a byte that is no event may also add
one record to the log: the sentinel of a cut transaction. -/
theorem fetch_frame (s : State) :
    (∀ slot bytes t, fetch s = .row slot bytes t → { t with inbox := s.inbox, bus := s.bus } = s) ∧
    (∀ t, fetch s = .other t → { t with inbox := s.inbox, bus := s.bus, outLog := s.outLog } = s ∧
      (t.outLog = s.outLog ∨ t.outLog = s.outLog ++ [.hostRead sentinel])) := by
  unfold fetch
  constructor
  · intro slot bytes t h
    split at h <;> (try split_ifs at h) <;> (try split at h) <;> cases h <;> rfl
  · intro t h
    split at h <;> (try split_ifs at h) <;> (try split at h) <;> cases h <;>
      first | exact ⟨rfl, .inl rfl⟩ | exact ⟨rfl, .inr rfl⟩

end Sys2Proof.Machine
end

