-- ==== Sys2Proof/Laws/Session.lean ====
section
/-! SUPPORT. The shared operations of the session: one lemma each that says what the operation can do. -/

namespace Sys2Proof.Machine

open Sys2Proof

theorem accumulate_one (acc b : Byte) : accumulate acc [b] = acc + b := rfl

theorem accumulate_two (acc b d : Byte) : accumulate acc [b, d] = acc + b + d := rfl

/-- A finalized checksum and its accumulator sum to zero (42_programming_session.md R150). -/
theorem acc_add_checksum (acc : Byte) : acc + checksumOf acc = 0 := BitVec.add_right_neg acc

theorem wordCount_le (b : Byte) : wordCount b ≤ maxWords := Nat.min_le_right _ _

@[simp] theorem length_readWords (s : State) (wa n : Nat) : (readWords s wa n).length = n := by simp [readWords]

@[simp] theorem length_idle_buf : Session.idle.buf.length = maxWords := rfl

/-- `MemRead` changes the log and takes draws, nothing else (20_memory.md R67). -/
theorem memRead_frame (wa n : Nat) (s : State) :
    { memRead wa n s with outLog := s.outLog, draws := s.draws } = s := rfl

/-- The three ends of a high address byte (R139, R140). -/
theorem paramAddrHi_cases (b : Byte) (s : State) :
    (s.cfg.flashWords ≤ (wordAddress (joinBytes b s.ses.addrLo)).toNat ∧ paramAddrHi b s = s.setSes Session.idle) ∨
    ((wordAddress (joinBytes b s.ses.addrLo)).toNat < s.cfg.flashWords ∧
      paramAddrHi b s = s.setSes { s.ses with
        acc := s.ses.acc + s.ses.addrLo + b
        waddr := wordAddress (joinBytes b s.ses.addrLo)
        phase := if s.ses.cmd = .erase then .eraseReady else .len }) := by
  unfold paramAddrHi
  by_cases h : s.cfg.flashWords ≤ (wordAddress (joinBytes b s.ses.addrLo)).toNat
  · exact .inl ⟨h, by simp [h]⟩
  · refine .inr ⟨by omega, ?_⟩
    simp only [if_neg h, accumulate_two]
    split_ifs <;> rfl

/-- A word address is half the byte address (30_encoding.md R84). -/
theorem toNat_wordAddress (h l : Byte) : (wordAddress (joinBytes h l)).toNat = (h.toNat * 256 + l.toNat) / 2 := by
  have hl := l.isLt
  unfold wordAddress joinBytes
  rw [BitVec.toNat_ushiftRight, Nat.shiftRight_eq_div_pow, BitVec.toNat_append, ← Nat.shiftLeft_add_eq_or_of_lt hl,
    Nat.shiftLeft_eq]

/-- A joined word gives its bytes back (R86). -/
theorem lowByte_joinBytes (h l : Byte) : lowByte (joinBytes h l) = l := by
  ext i hi
  rw [lowByte, BitVec.getElem_extractLsb', joinBytes, BitVec.getLsbD_append]
  simp [hi]

theorem highByte_joinBytes (h l : Byte) : highByte (joinBytes h l) = h := by
  ext i hi
  rw [highByte, BitVec.getElem_extractLsb', joinBytes, BitVec.getLsbD_append]
  simp [hi]

end Sys2Proof.Machine
end

