-- ==== Sys2Proof/Machine/HostNotation.lean ====
section
/-! DEFINITION. The host notation of the spec (30_encoding.md R74, R75, R80 to R83, R92) as lists of inputs. -/

namespace Sys2Proof.Machine

open Sys2Proof

/-- `S <dev> W`. -/
def hostStartW (a : BusAddr) : Event := .address (addressByte a false)

/-- `S <dev> R`. -/
def hostStartR (a : BusAddr) : Event := .address (addressByte a true)

/-- `REGW <dev> <r> b1 .. bk` (R74). -/
def hostRegw (a : BusAddr) (r : Byte) (bytes : List Byte) : List Event :=
  hostStartW a :: .write r :: (bytes.map .write ++ [.stop])

/-- `REGR <dev> <r> k` (R75). -/
def hostRegr (a : BusAddr) (r : Byte) (k : Nat) : List Event :=
  [hostStartW a, .write r, .stop, hostStartR a] ++ List.replicate k .read ++ [.stop]

/-- `CMD <dev> <code> p1 .. pj`. -/
def hostCmd (c : Config) (a : BusAddr) (code : Byte) (params : List Byte) : List Event :=
  hostRegw a (BitVec.ofNat 8 c.cmdReg) (code :: params)

/-- `PW <dev> b1 .. bk`. -/
def hostPw (c : Config) (a : BusAddr) (bytes : List Byte) : List Event :=
  hostRegw a (BitVec.ofNat 8 c.dataBase) bytes

/-- `PR <dev> k`. -/
def hostPr (c : Config) (a : BusAddr) (k : Nat) : List Event := hostRegr a (BitVec.ofNat 8 c.dataBase) k

/-- The bytes of words on the bus, low byte first (20_memory.md R53). -/
def wordBytes : List Word → List Byte
  | [] => []
  | w :: ws => lowByte w :: highByte w :: wordBytes ws

/-- `ERASE <dev> <baddr>` (R80). -/
def hostErase (c : Config) (a : BusAddr) (baddr : Word) : List Event :=
  hostCmd c a c.cErase [lowByte baddr, highByte baddr]

/-- `WRITE <dev> <baddr> w1 .. wn` (R81 frames (1) and (2)). -/
def hostWrite (c : Config) (a : BusAddr) (baddr : Word) (words : List Word) : List Event :=
  hostCmd c a c.cWrite [lowByte baddr, highByte baddr, BitVec.ofNat 8 (2 * words.length)] ++
    hostPw c a (wordBytes words)

/-- `READ <dev> <baddr> n` (R82). -/
def hostRead (c : Config) (a : BusAddr) (baddr : Word) (n : Nat) : List Event :=
  hostCmd c a c.cRead [lowByte baddr, highByte baddr, BitVec.ofNat 8 (2 * n)] ++ hostPr c a (2 * n + 1)

/-- The DISABLE frame (R83). -/
def hostDisable (c : Config) (a : BusAddr) : List Event := hostCmd c a c.cDisable []

end Sys2Proof.Machine
end

