-- ==== Sys2Proof/Tests/Slice0.lean ====
section
/-! SUPPORT. Tests: ill-formed configurations and instructions are refused; every row's bytes decode; one step of each
row against the spec's examples and vectors (95_test_vectors.md, by id); and, for each statement with hypotheses, a
state and operands that meet them. Every expected value is the spec's or computed by hand from it. -/

namespace Sys2Proof.Tests

open Sys2Proof Sys2Proof.Machine

/-! ### Configurations -/

/-- The configuration of the test vectors: the reference one with the test functions of R11. -/
def single : Config := { Config.reference with collaborators := .testVectors }

/-- The dual build of the test vectors (addresses 0x52 and 0x53, mask 0x7E). -/
def dual : Config := { single with dual := true, addrMask := 0x7E }

/-- A dual build whose mask also passes addresses of neither device (vector E3). -/
def dualLoose : Config := { single with dual := true, addrMask := 0x7C }

/-- A bootloader build. -/
def boot : Config := { single with runtime := false }

/-- The confirmation mode of R151. -/
def confirming : Config := { single with writeCommit := .afterConfirm }

theorem test_configurations_pass :
    single.wf = true ∧ dual.wf = true ∧ dualLoose.wf = true ∧ boot.wf = true ∧ confirming.wf = true ∧
      { single with calLen := 32, calDefault := List.replicate 32 0 }.wf = true := by decide

/-- An ill-formed configuration for each check of R12, for the sizes of R7 and R8, and for D6: the named check fails. -/
theorem test_check1_refuses : { single with cErase := 0x21 }.check1 = false := by decide
theorem test_check2_refuses : { single with cEncEn := 0x30 }.check2 = false := by decide
theorem test_check3_refuses_overlap : { single with calBase := 0x1F }.check3 = false := by decide
theorem test_check3_refuses_wrap : { single with idBase := 0xFB }.check3 = false := by decide
theorem test_check4_refuses : { single with dataLen := 0xE1 }.check4 = false := by decide
theorem test_check5_refuses : { single with dataBase := 0x01 }.check5 = false := by decide
theorem test_check6_refuses : { single with dataLen := 64 }.check6 = false := by decide
theorem test_check6_admits : { single with dataLen := 65 }.wf = true := by decide
theorem test_check7_refuses : { single with boundary := 0x0401 }.check7 = false := by decide
theorem test_check8_refuses : { single with flashWords := 0x1FFF }.check8 = false := by decide
theorem test_check9_refuses_boundary : { single with boundary := 0x2020 }.check9 = false := by decide
theorem test_check9_refuses_size : { single with flashWords := 0x10020 }.check9 = false := by decide
theorem test_check10_refuses_single : { single with addrMask := 0x7E }.check10 = false := by decide
theorem test_check10_refuses_dual : { dual with addrB := 0x50 }.check10 = false := by decide
theorem test_check11_refuses : { single with calDefault := [0x10] }.check11 = false := by decide
theorem test_codes_refuse : { single with cErase := 0x30 }.wf = false := by decide
theorem test_calLen_refuses : { single with calLen := 15, calDefault := List.replicate 15 0 }.wf = false := by decide
theorem test_ids_refuse : { single with idA := [] }.wf = false := by decide

/-- Ill-formed instructions: an address that does not match, a byte that another row of commands has, an index past the
register file. -/
theorem test_instr_wf_refuses :
    Instr.wf single (.addrW 0x53) = false ∧ Instr.wf dual (.addrR 0x50) = false ∧
    Instr.wf single (.appwr 256 0) = false ∧ Instr.wf single (.pcmdOther 0x23) = false ∧
    Instr.wf single (.rcmdOther 0x36) = false := by decide

theorem test_instr_wf_admits :
    Instr.wf single (.addrW 0x52) = true ∧ Instr.wf dual (.addrR 0x53) = true ∧
    Instr.wf single (.appwr 255 0) = true ∧ Instr.wf dual (.appwr 511 0) = true ∧
    Instr.wf single (.pcmdOther 0x30) = true ∧ Instr.wf single (.rcmdOther 0x20) = true := by decide

/-! ### Decoding: the bytes written out from the formats of 30_encoding.md -/

/-- R72: `a << 1 OR rw`; vectors E1 and E2. -/
theorem test_decode_address :
    decode single .address [0b10100100] = .ok (.addrW 0b1010010) ∧
    decode single .address [0b10100101] = .ok (.addrR 0b1010010) ∧
    decode dual .address [0b10100110] = .ok (.addrW 0b1010011) ∧
    decode single .address [0b10100110] = .error .notAddressed ∧
    decode single .address [] = .error .wrongByteCount := by decide

theorem test_decode_events :
    decode single .pointer [0b00010000] = .ok (.ptr 0x10) ∧ decode single .write [0b01000100] = .ok (.wr 0x44) ∧
    decode single .read [] = .ok .rd ∧ decode single .stop [] = .ok .stop ∧ decode single .ovf [] = .ok .ovf ∧
    decode single (.appwr 0x1FF) [0b01111111] = .ok (.appwr 0x1FF 0x7F) ∧ decode single .tick [] = .ok .tick ∧
    decode single .reset [] = .ok .reset ∧ decode single .tick [0] = .error .wrongByteCount := by decide

theorem test_decode_region_writes :
    decode single (.regWrite .app) [0b01000100] = .ok (.wrApp 0x44) ∧
    decode single (.regWrite .cal) [0b10011001] = .ok (.wrCal 0x99) ∧
    decode single (.regWrite .key) [0b10101010] = .ok (.wrKey 0xAA) ∧
    decode single (.regWrite .cmd) [0b00110100] = .ok (.wrCmd 0x34) ∧
    decode single (.regWrite .cmdp) [0b00000001] = .ok (.wrCmdp 0x01) ∧
    decode single (.regWrite .custom) [0b00000000] = .ok (.wrCustom 0x00) ∧
    decode single (.regWrite .id) [0b00000000] = .ok (.wrId 0x00) ∧
    decode single (.regWrite .invalid) [0b00010010] = .ok (.wrInvalid 0x12) ∧
    decode single (.regWrite .data) [0b00110100] = .ok (.wrData 0x34) := by decide

theorem test_decode_region_reads :
    decode single (.regRead .app) [] = .ok .rdApp ∧ decode single (.regRead .cal) [] = .ok .rdCal ∧
    decode single (.regRead .key) [] = .ok .rdKey ∧ decode single (.regRead .id) [] = .ok .rdId ∧
    decode single (.regRead .custom) [] = .ok .rdCustom ∧ decode single (.regRead .cmd) [] = .ok .rdCmd ∧
    decode single (.regRead .cmdp) [] = .ok .rdCmdp ∧ decode single (.regRead .invalid) [] = .ok .rdInvalid ∧
    decode single (.regRead .data) [] = .ok .rdData := by decide

/-- R88: the reference codes 0x20 to 0x23; 0x30 is no programming code. -/
theorem test_decode_programming_codes :
    decode single .progCommand [0b00100000] = .ok .pcmdErase ∧
    decode single .progCommand [0b00100001] = .ok .pcmdWrite ∧
    decode single .progCommand [0b00100010] = .ok .pcmdRead ∧
    decode single .progCommand [0b00100011] = .ok .pcmdDisable ∧
    decode single .progCommand [0b00110000] = .ok (.pcmdOther 0x30) := by decide

theorem test_decode_session_bytes :
    decode single (.param .addrLo) [0b00100110] = .ok (.paramAddrLo 0x26) ∧
    decode single (.param .addrHi) [0b00001000] = .ok (.paramAddrHi 0x08) ∧
    decode single (.param .len) [0b00000100] = .ok (.paramLen 0x04) ∧
    decode single (.param .other) [0b01010101] = .ok (.paramOther 0x55) ∧
    decode single (.chanWrite .lo) [0b00110100] = .ok (.dataWrLo 0x34) ∧
    decode single (.chanWrite .hi) [0b00010010] = .ok (.dataWrHi 0x12) ∧
    decode single (.chanWrite .confirm) [0b00100001] = .ok (.dataWrConfirm 0x21) ∧
    decode single (.chanWrite .other) [0b10011001] = .ok (.dataWrOther 0x99) ∧
    decode single (.chanRead .lo) [] = .ok .dataRdLo ∧ decode single (.chanRead .hi) [] = .ok .dataRdHi ∧
    decode single (.chanRead .csum) [] = .ok .dataRdCsum ∧
    decode single (.chanRead .other) [] = .ok .dataRdOther := by decide

/-- R89: the reference codes 0x30 to 0x36; 0x20 is no runtime code. -/
theorem test_decode_runtime_codes :
    decode single .pending [0b00110000] = .ok .rcmdProgEn ∧ decode single .pending [0b00110001] = .ok .rcmdCfgEn ∧
    decode single .pending [0b00110010] = .ok .rcmdCfgDis ∧ decode single .pending [0b00110011] = .ok .rcmdCalLoad ∧
    decode single .pending [0b00110100] = .ok .rcmdCalStore ∧
    decode single .pending [0b00110101] = .ok .rcmdCalDefault ∧
    decode single .pending [0b00110110] = .ok .rcmdEncEn ∧
    decode single .pending [0b00100000] = .ok (.rcmdOther 0x20) := by decide

theorem test_table_words :
    decodeTableWord 8 0xA4 = some (.addrW 0x52) ∧ decodeTableWord 8 0x21 = some .pcmdWrite ∧
    decodeTableWord 8 0x34 = some .rcmdCalStore ∧ decodeTableWord 8 0x00 = some (.ptr 0x00) ∧
    decodeTableWord 0 0 = some .tick ∧ decodeTableWord 16 0x1234 = none := by decide

/-- R92: the host notation gives the bytes of 30_encoding.md (`CMD A 0x34` is `A4 E0 34`). -/
theorem test_host_notation :
    hostCmd single 0x52 0x34 [] = [.address 0xA4, .write 0xE0, .write 0x34, .stop] ∧
    hostRegr 0x52 0x10 1 = [.address 0xA4, .write 0x10, .stop, .address 0xA5, .read, .stop] := by decide

/-! ### States -/

/-- After reset, with zeros in the register file and the calibration store. -/
def quiet (c : Config) : State :=
  { State.reset with cfg := c, rf := List.replicate c.cap 0, calStore := List.replicate c.calLen 0, draws := 0 }

/-- In a write transaction of device A, the pointer byte taken, the cursor at `r`. -/
def writing (s : State) (r : Byte) : State := { s with dev := .a, dir := .w, ptr := r }

/-- In a read transaction of device A, the cursor at `r`. -/
def reading (s : State) (r : Byte) : State := { s with dev := .a, dir := .r, ptr := r }

/-- In programming mode with session `x`. -/
def programming (s : State) (x : Session) : State := { s with progMode := true, ses := x }

/-- The key of the vectors A10 to A17. -/
def keyBytes : List Byte :=
  [0x01, 0x02, 0x03, 0x04, 0x05, 0x06, 0x07, 0x08, 0x09, 0x0A, 0x0B, 0x0C, 0x0D, 0x0E, 0x0F, 0x10]

/-- Runtime mode with the transform on. -/
def keyed (s : State) : State := { s with xkey := some keyBytes }

/-- A code waits for the main loop. -/
def pending (s : State) (code : Byte) : State := { s with pend := some code }

/-- W1 after its command and address bytes. -/
def writeLen : Session := { Session.idle with phase := .len, cmd := .write, waddr := 0x400, acc := 0x08 }

/-- W1 after its length byte. -/
def writeData : Session :=
  { Session.idle with phase := .data, cmd := .write, waddr := 0x400, nwords := 2, acc := 0x0C }

/-- W1 after its first data byte. -/
def writeHigh : Session := { writeData with lo := 0x34, hi := true }

/-- W1 after its third data byte. -/
def writeLast : Session :=
  { writeData with buf := Session.idle.buf.set 0 0x1234, lo := 0x78, hi := true, idx := 1, acc := 0x52 }

/-- W1 after its last data byte. -/
def writeSum : Session :=
  { writeLast with
    phase := .csumOut, buf := (Session.idle.buf.set 0 0x1234).set 1 0x5678, lo := 0x78, hi := false, idx := 2
    acc := 0x20, csum := 0xE0 }

/-- W1 after its checksum. -/
def writeReady : Session := { writeSum with phase := .writeReady }

/-- The confirmation mode after the checksum (vectors S15 and S16). -/
def awaiting : Session := { writeSum with phase := .awaitConfirm }

/-- W2 after its address bytes. -/
def readLen : Session := { Session.idle with phase := .len, cmd := .read, waddr := 0x500, acc := 0x0A }

/-- W2 after its length byte. -/
def readData : Session :=
  { readLen with phase := .data, nwords := 1, acc := 0x0C, buf := Session.idle.buf.set 0 0xBEEF }

/-- W2 after its first data byte. -/
def readHighNext : Session := { readData with hi := true }

/-- W2 after its last data byte. -/
def readSum : Session := { readData with phase := .csumOut, idx := 1, acc := 0xB9, csum := 0x47 }

/-- S1: an ERASE is queued. -/
def eraseReady : Session :=
  { Session.idle with phase := .eraseReady, cmd := .erase, addrLo := 0x26, waddr := 0x0413, acc := 0x2E }

/-- What `f` sees of the next state. -/
def after {α : Type} (i : Instr) (s : State) (f : State → α) : Option α :=
  match exec i s with
  | .next t => some (f t)
  | .fault _ => none
  | .refused _ => none

/-! ### One step of each row, from the spec's examples and vectors -/

/-- E4; R94's example. -/
theorem test_addrW : after (.addrW 0x52) { quiet single with ptr := 0x33 } (fun t => (t.dev, t.dir, t.expectPtr, t.ptr)) =
    some (.a, .w, true, 0x33) := rfl
theorem test_addrR : after (.addrR 0x53) (quiet dual) (fun t => (t.dev, t.dir, t.expectPtr)) =
    some (.b, .r, false) := rfl

/-- E3: an address of neither device. -/
theorem test_addrW_neither : after (.addrW 0x50) (quiet dualLoose) (·.dev) = some .none := rfl

/-- R97's example. -/
theorem test_ptr : after (.ptr 0xE0) { writing (quiet single) 0 with expectPtr := true } (fun t => (t.ptr, t.expectPtr)) =
    some (0xE0, false) := rfl

/-- E7: the cursor wraps inside the half. -/
theorem test_wr_wraps : after (.wr 0x01) (writing (quiet single) 0xFF) (·.ptr) = some 0x00 := rfl

/-- E11: ignored during an overflow. -/
theorem test_wr_overflow :
    after (.wr 0x22) { writing (quiet single) 0x00 with ovf := true } (fun t => (t.rfByte 0, t.ptr)) =
      some (0, 0x00) := rfl

/-- E12: the sentinel, and the cursor stays. -/
theorem test_rd_overflow :
    after .rd { reading (quiet single) 0x10 with ovf := true } (fun t => (deliveredByte t, t.ptr)) =
      some ([0xFF], 0x10) := rfl

/-- E9. -/
theorem test_rd :
    after .rd { reading (quiet single) 0x10 with rf := (quiet single).rf.set 0x10 0x66 }
      (fun t => (deliveredByte t, t.ptr)) = some ([0x66], 0x11) := rfl

/-- R103's example. -/
theorem test_stop :
    after .stop { writing (quiet single) 0x05 with ovf := true } (fun t => (t.dev, t.dir, t.ovf, t.ptr)) =
      some (.none, .none, false, 0x05) := rfl
theorem test_ovf : after .ovf (quiet single) (·.ovf) = some true := rfl

/-- E13. -/
theorem test_appwr : after (.appwr 0x002 0x7F) (quiet single) (fun t => (t.rfByte 2, t.rfByte 1, t.ptr)) =
    some (0x7F, 0, 0) := rfl
theorem test_appwr_past_end : exec (.appwr 256 0x7F) (quiet single) = .fault (.noSuchRegister 256) := by rfl

/-- W1 step 10. -/
theorem test_tick :
    after .tick (programming (quiet single) writeReady) (fun t => (t.flash, t.ses)) =
      some ([(0x400, 0x1234), (0x401, 0x5678)], Session.idle) := rfl

/-- F1: below the boundary, dropped; the session still resets. -/
theorem test_tick_below_boundary :
    after .tick (programming (quiet single) { eraseReady with waddr := 0x03FF })
      (fun t => (t.flash, t.ses, t.outLog)) = some ([], Session.idle, [.reset]) := rfl

/-- R214. -/
theorem test_reset :
    after .reset (programming (quiet single) writeReady)
      (fun t => (t.progMode, t.ses, t.outLog, t.calStore)) =
      some (false, Session.idle, [.reset, .reset], List.replicate 14 0) := rfl

/-- R111's examples: raw without a key; `0x44 XOR 0x04` under the key. -/
theorem test_wrApp : after (.wrApp 0x44) (writing (quiet single) 0x03) (·.rfByte 3) = some 0x44 := rfl
theorem test_wrApp_keyed :
    after (.wrApp 0x44) (writing (keyed (quiet single)) 0x03) (·.rfByte 3) = some 0x40 := rfl

/-- A11. -/
theorem test_wrCal :
    after (.wrCal 0x55) (writing (keyed (quiet single)) 0x20) (·.rfByte 0x20) = some 0x54 := rfl

/-- A12: never transformed. -/
theorem test_wrKey :
    after (.wrKey 0xAA) (writing (keyed (quiet single)) 0x41) (·.rfByte 0x41) = some 0xAA := rfl

/-- R130: device B's half. -/
theorem test_wrCal_half :
    after (.wrCal 0x02) { writing (quiet dual) 0x20 with dev := .b } (fun t => (t.rfByte 0x120, t.rfByte 0x020)) =
      some (0x02, 0) := rfl

/-- C1, and R114's example. -/
theorem test_wrCmd :
    after (.wrCmd 0x30) (writing (quiet single) 0xE0) (fun t => (t.pend, t.progMode)) =
      some (some 0x30, false) := rfl
theorem test_wrCmd_programming :
    after (.wrCmd 0x21) (writing (programming (quiet single) Session.idle) 0xE0) (fun t => (t.ses.cmd, t.pend)) =
      some (.write, none) := rfl

/-- R115's example, and R191. -/
theorem test_wrCmdp :
    after (.wrCmdp 0x00) (writing (programming (quiet single) (freshSession .write)) 0xE1) (·.ses.phase) =
      some .addrHi := rfl
theorem test_wrCmdp_runtime :
    after (.wrCmdp 0x55) (writing (quiet single) 0xE3) (fun t => (t.ses, t.pend, t.ptr)) =
      some (Session.idle, none, 0xE4) := rfl

/-- R116, A5 and A9. -/
theorem test_wrCustom : after (.wrCustom 0x00) (writing (quiet single) 0xE4) (·.ptr) = some 0xE5 := rfl
theorem test_wrId : after (.wrId 0x55) (writing (quiet single) 0xFA) (fun t => (t.ptr, t.rfByte 0xFA)) =
    some (0xFB, 0) := rfl
theorem test_wrInvalid : after (.wrInvalid 0x12) (writing (quiet single) 0x80) (fun t => (t.ptr, t.rfByte 0x80)) =
    some (0x81, 0) := rfl

/-- R119's example. -/
theorem test_wrData :
    after (.wrData 0x34) (writing (programming (quiet single) writeData) 0x00)
      (fun t => (t.ses.lo, t.ses.hi, t.rfByte 0)) = some (0x34, true, 0) := rfl

/-- A10 and A16. -/
theorem test_rdApp :
    after .rdApp (reading (keyed (quiet single)) 0x00) deliveredByte = some [0x01] := rfl

/-- A20: the last calibration register. -/
theorem test_rdCal :
    after .rdCal { reading (quiet single) 0x2D with rf := (quiet single).rf.set 0x2D 0x77 }
      (fun t => (deliveredByte t, t.ptr)) = some ([0x77], 0x2E) := rfl

/-- A13. -/
theorem test_rdKey :
    after .rdKey { reading (keyed (quiet single)) 0x41 with rf := (quiet single).rf.set 0x41 0xAA } deliveredByte =
      some [0xA8] := rfl

/-- A1 and A4: the cycle; A3: device B's block. -/
theorem test_rdId :
    after .rdId (reading (quiet single) 0xFF) (fun t => (deliveredByte t, t.ptr)) = some ([0x01], 0xFA) := rfl
theorem test_rdId_b :
    after .rdId { reading (quiet dual) 0xFE with dev := .b } (fun t => (deliveredByte t, t.ptr)) =
      some ([0x00], 0xFF) := rfl

/-- A14. -/
theorem test_rdCustom :
    after .rdCustom (reading (keyed (quiet single)) 0xE4) deliveredByte = some [0x5F] := rfl

/-- A15. -/
theorem test_rdCmd : after .rdCmd (reading (keyed (quiet single)) 0xE0) deliveredByte = some [0xFF] := rfl
theorem test_rdCmdp : after .rdCmdp (reading (keyed (quiet single)) 0xE1) deliveredByte = some [0xFF] := rfl
theorem test_rdInvalid : after .rdInvalid (reading (keyed (quiet single)) 0x80) deliveredByte = some [0xFF] := rfl

/-- A18. -/
theorem test_rdData :
    after .rdData (reading (programming (quiet single) Session.idle) 0x10) deliveredByte = some [0xFF] := rfl

/-- S8: a command byte discards the session. -/
theorem test_pcmdErase :
    after .pcmdErase (writing (programming (quiet single) writeLast) 0xE0) (·.ses) =
      some { Session.idle with phase := .addrLo, cmd := .erase } := rfl
theorem test_pcmdWrite :
    after .pcmdWrite (writing (programming (quiet single) eraseReady) 0xE0) (·.ses) =
      some { Session.idle with phase := .addrLo, cmd := .write } := rfl
theorem test_pcmdRead :
    after .pcmdRead (writing (programming (quiet single) writeLast) 0xE0) (·.ses) =
      some { Session.idle with phase := .addrLo, cmd := .read } := rfl

/-- S18 and S19. -/
theorem test_pcmdDisable :
    after .pcmdDisable (writing (programming (quiet single) writeReady) 0xE0) (fun t => (t.ses, t.progMode, t.outLog)) =
      some (Session.idle, false, [.reset, .exitProgramming]) := rfl
theorem test_pcmdDisable_boot :
    after .pcmdDisable (writing (programming (quiet boot) writeReady) 0xE0) (·.progMode) = some true := rfl

/-- S9. -/
theorem test_pcmdOther :
    after (.pcmdOther 0x30) (writing (programming (quiet single) writeReady) 0xE0) (·.ses) = some Session.idle := rfl

/-- W1 step 2. -/
theorem test_paramAddrLo :
    after (.paramAddrLo 0x26) (writing (programming (quiet single) (freshSession .erase)) 0xE1)
      (fun t => (t.ses.addrLo, t.ses.phase, t.ses.acc)) = some (0x26, .addrHi, 0) := rfl

/-- S1, and S20: the first address past the flash. -/
theorem test_paramAddrHi :
    after (.paramAddrHi 0x08)
      (writing (programming (quiet single) { freshSession .erase with phase := .addrHi, addrLo := 0x26 }) 0xE2)
      (·.ses) = some eraseReady := rfl
theorem test_paramAddrHi_past_end :
    after (.paramAddrHi 0x40)
      (writing (programming (quiet single) { freshSession .erase with phase := .addrHi }) 0xE2) (·.ses) =
      some Session.idle := rfl

/-- W1 step 4; W2 step 4. -/
theorem test_paramLen_write :
    after (.paramLen 0x04) (writing (programming (quiet single) writeLen) 0xE3) (·.ses) = some writeData := rfl
theorem test_paramLen_read :
    after (.paramLen 0x02) { writing (programming (quiet single) readLen) 0xE3 with flash := [(0x500, 0xBEEF)] }
      (fun t => (t.ses, t.outLog)) = some (readData, [.reset, .readWords 0x500 1]) := rfl

/-- S2. -/
theorem test_paramOther :
    after (.paramOther 0x55) (writing (programming (quiet single) eraseReady) 0xE3) (·.ses) = some eraseReady := rfl

/-- W1 steps 5, 6 and 8. -/
theorem test_dataWrLo :
    after (.dataWrLo 0x34) (writing (programming (quiet single) writeData) 0x00) (·.ses) = some writeHigh := rfl
theorem test_dataWrHi :
    after (.dataWrHi 0x12) (writing (programming (quiet single) writeHigh) 0x01)
      (fun t => (t.ses.buf.getD 0 0, t.ses.idx, t.ses.acc, t.ses.phase)) = some (0x1234, 1, 0x52, .data) := rfl
theorem test_dataWrHi_last :
    after (.dataWrHi 0x56) (writing (programming (quiet single) writeLast) 0x03) (·.ses) = some writeSum := rfl

/-- S15 and S16. -/
theorem test_dataWrConfirm :
    after (.dataWrConfirm 0x21) (writing (programming (quiet confirming) awaiting) 0x00) (·.ses) = some writeReady := rfl
theorem test_dataWrConfirm_wrong :
    after (.dataWrConfirm 0x00) (writing (programming (quiet confirming) awaiting) 0x00) (·.ses) =
      some Session.idle := rfl

/-- S11. -/
theorem test_dataWrOther :
    after (.dataWrOther 0x99) (writing (programming (quiet single) readData) 0x00) (·.ses) = some readData := rfl

/-- W2 steps 5 to 7. -/
theorem test_dataRdLo :
    after .dataRdLo (reading (programming (quiet single) readData) 0x00) (fun t => (deliveredByte t, t.ses)) =
      some ([0xEF], readHighNext) := rfl
theorem test_dataRdHi :
    after .dataRdHi (reading (programming (quiet single) readHighNext) 0x01) (fun t => (deliveredByte t, t.ses)) =
      some ([0xBE], readSum) := rfl
theorem test_dataRdCsum_read :
    after .dataRdCsum (reading (programming (quiet single) readSum) 0x02) (fun t => (deliveredByte t, t.ses)) =
      some ([0x47], Session.idle) := rfl

/-- W1 step 9. -/
theorem test_dataRdCsum_write :
    after .dataRdCsum (reading (programming (quiet single) writeSum) 0x04) (fun t => (deliveredByte t, t.ses)) =
      some ([0xE0], writeReady) := rfl

/-- S14. -/
theorem test_dataRdOther :
    after .dataRdOther (reading (programming (quiet single) writeReady) 0x05) (fun t => (deliveredByte t, t.ses)) =
      some ([0xFF], writeReady) := rfl

/-- R179 to R186, each rule's example. -/
theorem test_rcmdProgEn :
    after .rcmdProgEn (pending (quiet single) 0x30) (fun t => (t.progMode, t.pend)) = some (true, none) := rfl
theorem test_rcmdCfgEn :
    after .rcmdCfgEn (pending (quiet single) 0x31) (fun t => (t.cfgMode, t.pend)) = some (true, none) := rfl
theorem test_rcmdCfgDis :
    after .rcmdCfgDis (pending { quiet single with cfgMode := true } 0x32) (fun t => (t.cfgMode, t.pend)) =
      some (false, none) := rfl
theorem test_rcmdCalLoad :
    after .rcmdCalLoad (pending { quiet single with calStore := Config.reference.calDefault } 0x33)
      (fun t => (t.rfByte 0x20, t.rfByte 0x2D, t.rfByte 0x2E)) = some (0x10, 0x1D, 0) := rfl
theorem test_rcmdCalStore :
    after .rcmdCalStore (pending { quiet single with rf := (quiet single).rf.set 0x20 0x99 } 0x34)
      (fun t => (t.calStore.getD 0 0, t.calStore.length)) = some (0x99, 14) := rfl
theorem test_rcmdCalDefault :
    after .rcmdCalDefault (pending (quiet single) 0x35) (fun t => (t.rfByte 0x20, t.rfByte 0x21, t.calStore.getD 0 0)) =
      some (0x10, 0x11, 0) := rfl
theorem test_rcmdEncEn :
    after .rcmdEncEn (pending { quiet single with rf := storeBytes (quiet single).rf 0x40 keyBytes } 0x36) (·.xkey) =
      some (some keyBytes) := rfl
theorem test_rcmdEncEn_fails : after .rcmdEncEn (pending (keyed (quiet single)) 0x36) (fun t => (t.xkey, t.pend)) =
    some (none, none) := rfl
theorem test_rcmdOther :
    after (.rcmdOther 0x99) (pending (quiet single) 0x99) id = some (quiet single) := rfl

/-- F5, F6: the write stops at the end of its row; F9: a flash that only clears bits. -/
theorem test_clamp : clampedLength 0x41C 8 = 4 ∧ clampedLength 0x41F 32 = 1 ∧ clampedLength 0x400 32 = 32 := by decide
theorem test_and_flash :
    programmedWord { single with flashWriteMode := .and } 0xFF0F 0x1234 = 0x1204 := by decide

/-- F3: a whole row. -/
theorem test_erase_row :
    [0x3FF, 0x400, 0x410, 0x41F, 0x420].map
      (execErase 0x413 { quiet single with flash := [(0x3FF, 1), (0x400, 2), (0x41F, 3), (0x420, 4)] }).flashWord =
      [1, 0xFFFF, 0xFFFF, 0xFFFF, 4] := rfl

/-- R52: a word that nothing has written holds its initial draw, whatever it is. -/
theorem test_unwritten_word :
    (execErase 0x413 State.reset).flashWord 0x500 = Config.initialFlash 0x500 &&& 0xFFFF := rfl

/-- F12: a word past the end of the flash is the next draw, whatever it is. -/
theorem test_read_past_end :
    (readWords { quiet single with flash := [(0x1FFF, 0x0102)] } 0x1FFF 2) = [0x0102, Config.freeWord 0] := by rfl

/-- E14: another device's bytes are not delivered. -/
theorem test_other_device :
    step { writing (quiet single) 0x05 with inbox := [.address 0x20] } =
      .next { writing (quiet single) 0x05 with bus := .foreign } := by rfl

/-- R76: a byte outside a transaction has no move. -/
theorem test_no_transaction :
    step { quiet single with inbox := [.write 0x00] } = .refused .hostGrammar ∧
    step { quiet single with inbox := [.read] } = .refused .hostGrammar := ⟨by rfl, by rfl⟩

/-- R214's corner case: the rest of a transaction that a RESET cut is ignored until the next ADDR. -/
theorem test_reset_cuts :
    after .reset (writing (quiet single) 0x05) (fun t => (t.bus, t.dev)) = some (.cutWrite, .none) ∧
    step { quiet single with bus := .cutWrite, inbox := [.write 0x11] } =
      .next { quiet single with bus := .cutWrite } :=
  ⟨rfl, by rfl⟩

/-! ### States that meet the hypotheses of the statements

One theorem per statement with hypotheses, named after it; a conjunct for each clause, at a boundary of its range. -/

/-- A session that has written one word of a bigger flash, for the statements about a pass. -/
def rowEnd : Session := { writeReady with waddr := 0x41F, nwords := 32 }

/-- States used below that keep the invariant. -/
def kept : List State :=
  [quiet single, programming (quiet boot) Session.idle, { writing (quiet dual) 0x1F with dev := .b },
    writing (quiet single) 0x2D, { writing (quiet dual) 0x4F with dev := .b },
    writing (programming (quiet single) readLen) 0xE3, programming (quiet single) writeReady,
    programming (quiet single) rowEnd, pending (quiet single) 0x30, pending (quiet single) 0x31,
    pending (quiet single) 0x32, pending (quiet single) 0x33, pending (quiet single) 0x34, pending (quiet single) 0x35,
    pending (quiet single) 0x36, pending (quiet single) 0x99,
    { writing (pending (quiet single) 0x34) 0xE0 with inbox := [.tick, .write 0x33, .tick] },
    pending (quiet single) 0x23]

theorem test_kept : kept.all (fun s => decide s.Inv) = true := by decide +kernel

theorem kept_inv (i : Fin 18) : (kept.get i).Inv :=
  of_decide_eq_true (List.all_eq_true.mp test_kept _ (kept.get_mem i))

theorem witness_DecodeOfEncodeIsTheInstruction :
    dual.wf = true ∧ Instr.wf dual (.addrW 0x53) = true ∧ Instr.wf dual (.appwr 511 0xFF) = true ∧
    Instr.wf dual (.pcmdOther 0x24) = true ∧ Instr.wf dual (.rcmdOther 0x37) = true := by decide

theorem witness_EncodeOfDecodedIsTheBytes :
    decode dual .progCommand [0x24] = .ok (.pcmdOther 0x24) ∧ (∀ idx, Slot.progCommand ≠ .appwr idx) ∧
    decode dual (.appwr 511) [0xFF] = .ok (.appwr 511 0xFF) :=
  ⟨rfl, by simp, rfl⟩

theorem witness_StepRunsTheDecodedInstruction :
    single.wf = true ∧ fetch { quiet single with inbox := [.address 0xA4] } = .row .address [0xA4] (quiet single) ∧
    decode single .address [0xA4] = .ok (.addrW 0x52) :=
  ⟨rfl, rfl, rfl⟩

theorem witness_SelectedRowRefinesTheEventHandler :
    decode single (writeSlot (writing (programming (quiet single) writeData) 0x00)) [0x34] = .ok (.dataWrLo 0x34) ∧
    decode single (readSlot (reading (quiet single) 0xFF)) [] = .ok .rdId ∧
    decode single (tickInput (pending (quiet single) 0x36)).1 (tickInput (pending (quiet single) 0x36)).2 =
      .ok .rcmdEncEn :=
  ⟨rfl, rfl, rfl⟩

theorem witness_RegionRowsCompleteAsTheirEvents :
    (∀ x ∈ [(0x1F, Region.app), (0x2D, .cal), (0x4F, .key), (0xE0, .cmd), (0xE3, .cmdp), (0xE4, .custom), (0xFF, .id),
      (0x2E, .invalid)], (writing (quiet single) x.1).WriteAccess x.2) ∧
    (∀ x ∈ [(0x00, Region.app), (0x20, .cal), (0x40, .key), (0xE0, .cmd), (0xE1, .cmdp), (0xE4, .custom), (0xFA, .id),
      (0xF9, .invalid)], (reading (quiet single) x.1).ReadAccess x.2) ∧
    (writing (programming (quiet single) writeData) 0x7F).WriteAccess .data ∧
    (reading (programming (quiet single) readData) 0x00).ReadAccess .data := by decide

theorem witness_IllFormedConfigurationsAreRefused :
    ¬ PassesChecks { single with boundary := 0x0401 } ∧ PassesChecks { single with dataLen := 65 } := by
  refine ⟨fun h => absurd h.2.2.2.2.2.2.1 (by decide), ?_⟩
  have rest : (∀ c ∈ [{ single with dataLen := 65 }],
      c.progCodes.Nodup ∧ c.runtimeCodes.Nodup ∧ c.dataBase = c.appBase ∧ c.flashWords % 32 = 0) := by decide
  obtain ⟨h1, h2, h3, h4⟩ := rest _ List.mem_cons_self
  refine ⟨h1, h2, ⟨by decide, ?_⟩, ⟨by decide, ?_⟩, h3, by decide, by decide, h4, by decide⟩
  all_goals
    simp only [single, Config.reference, List.pairwise_cons, List.mem_cons, List.not_mem_nil, or_false,
      forall_eq_or_imp, forall_eq, List.Pairwise.nil, IsEmpty.forall_iff, implies_true, and_true]
    repeat' apply And.intro
    all_goals (intro a; omega)

theorem witness_OtherDevicesDeliverOnlyTheirStop :
    single.wf = true ∧ single.matchesAddr (addressField 0xA6) = false ∧
    { quiet single with inbox := [.address 0xA6] }.inbox = .address 0xA6 :: [] ∧
    ({ quiet single with inbox := [.write 0x00], bus := .foreign } : State).bus = .foreign ∧
    ({ quiet single with inbox := [.read], bus := .foreign } : State).bus = .foreign ∧
    { quiet single with inbox := [.stop, .tick], bus := .foreign }.inbox = .stop :: [.tick] :=
  ⟨rfl, rfl, rfl, rfl, rfl, rfl⟩

theorem witness_AddressEventsRecordTheDevice :
    (single.matchesAddr 0x52 = true ∧ single.dual = false) ∧
    (dualLoose.matchesAddr 0x52 = true ∧ dualLoose.dual = true ∧ (0x52 : BusAddr) = dualLoose.addrA) ∧
    (dualLoose.matchesAddr 0x53 = true ∧ (0x53 : BusAddr) ≠ dualLoose.addrA ∧ (0x53 : BusAddr) = dualLoose.addrB) ∧
    (dualLoose.matchesAddr 0x50 = true ∧ (0x50 : BusAddr) ≠ dualLoose.addrA ∧
      (0x50 : BusAddr) ≠ dualLoose.addrB) := by decide

theorem witness_PointerByteLoadsTheCursor :
    let s := { writing (quiet single) 0x00 with expectPtr := true }
    s.dev ≠ .none ∧ s.ovf = false ∧ s.dir = .w ∧ s.expectPtr = true := by decide

theorem witness_ClosedGateIgnoresBytes :
    let s := { writing (quiet dualLoose) 0x00 with dev := .none }
    let u := { reading (quiet single) 0x00 with ovf := true }
    s.dev = .none ∧ s.dir = .w ∧ u.ovf = true ∧ u.dir = .r ∧ (quiet single).cfg.matchesAddr 0x52 = true := by decide

theorem witness_WrongDirectionHasNoMove :
    (reading (quiet single) 0x00).dir ≠ .w ∧ (quiet single).dir ≠ .w ∧
    (writing (quiet single) 0x00).dir ≠ .r ∧ (quiet single).dir ≠ .r := by decide

theorem witness_RegionDecodeIsTheRegisterMap : single.wf = true ∧ dual.wf = true := by decide

theorem witness_ApplicationWriteStoresOneByte :
    ((quiet single).rf.length = single.cap ∧ (255 : BitVec 9).toNat < single.cap) ∧
    ((quiet dual).rf.length = dual.cap ∧ (511 : BitVec 9).toNat < dual.cap) := by
  simp [quiet]; decide

theorem witness_ApplicationWritePastTheFileStops : (quiet single).cfg.cap ≤ (256 : BitVec 9).toNat := by decide

theorem witness_TransformOnlyWithAKeyInRuntimeMode :
    ((keyed (quiet single)).progMode = false ∧ (keyed (quiet single)).xkey = some keyBytes) ∧
    (programming (keyed (quiet single)) Session.idle).progMode = true ∧ (quiet single).xkey = none := by decide

theorem witness_AppAndCalWritesStoreTheDecodedByte :
    (({ writing (quiet dual) 0x1F with dev := .b } : State).Inv ∧
      ({ writing (quiet dual) 0x1F with dev := .b } : State).WriteAccess .app) ∧
    (writing (quiet single) 0x2D).Inv ∧ (writing (quiet single) 0x2D).WriteAccess .cal :=
  ⟨⟨kept_inv 2, by decide⟩, kept_inv 3, by decide⟩

theorem witness_KeyWriteStoresTheRawByte :
    ({ writing (quiet dual) 0x4F with dev := .b } : State).Inv ∧
    ({ writing (quiet dual) 0x4F with dev := .b } : State).WriteAccess .key :=
  ⟨kept_inv 4, by decide⟩

theorem witness_CommandRegisterWriteIsRouted :
    ((writing (quiet single) 0xE0).WriteAccess .cmd ∧ (writing (quiet single) 0xE0).progMode = false) ∧
    (writing (programming (quiet single) writeReady) 0xE0).WriteAccess .cmd ∧
    (writing (programming (quiet single) writeReady) 0xE0).progMode = true := by decide

theorem witness_ParameterRegisterWriteIsRouted :
    ((writing (quiet single) 0xE1).WriteAccess .cmdp ∧ (writing (quiet single) 0xE1).progMode = false) ∧
    (writing (programming (quiet single) readLen) 0xE3).WriteAccess .cmdp ∧
    (writing (programming (quiet single) readLen) 0xE3).progMode = true := by decide

theorem witness_ReadOnlyAndInvalidWritesAreIgnored :
    (writing (quiet single) 0xE4).WriteAccess .custom ∧ (writing (quiet single) 0xFF).WriteAccess .id ∧
    (writing (quiet single) 0xDF).WriteAccess .invalid := by decide

theorem witness_DataChannelReachesOnlyTheSession :
    (writing (programming (quiet single) writeData) 0x7F).WriteAccess .data ∧
    (reading (programming (quiet single) readData) 0x7F).ReadAccess .data := by decide

theorem witness_RegisterReadsDeliverTheEncodedByte :
    (reading (keyed (quiet single)) 0x1F).ReadAccess .app ∧ (reading (keyed (quiet single)) 0x2D).ReadAccess .cal ∧
    (reading (keyed (quiet single)) 0x4F).ReadAccess .key := by decide

theorem witness_IdentityReadsCycle :
    ((reading (quiet single) 0xFA).ReadAccess .id ∧ (0xFA : Byte).toNat = single.idBase + 0) ∧
    (reading (quiet single) 0xFF).ReadAccess .id ∧ (0xFF : Byte).toNat = single.idBase + 5 := by decide

theorem witness_ConstantReads :
    (reading (quiet single) 0xE4).ReadAccess .custom ∧ (reading (quiet single) 0xE0).ReadAccess .cmd ∧
    (reading (quiet single) 0xE3).ReadAccess .cmdp ∧ (reading (quiet single) 0x50).ReadAccess .invalid := by decide

theorem witness_CommandBytesStartAFreshSession :
    (writing (programming (quiet single) writeLast) 0xE0).WriteAccess .cmd ∧
    (writing (programming (quiet single) writeLast) 0xE0).progMode = true ∧
    (0x24 : Byte) ≠ single.cErase ∧ (0x24 : Byte) ≠ single.cWrite ∧ (0x24 : Byte) ≠ single.cRead ∧
    (0x24 : Byte) ≠ single.cDisable := by decide

theorem witness_DisableLeavesProgrammingMode :
    (writing (programming (quiet single) writeReady) 0xE0).WriteAccess .cmd ∧
    (writing (programming (quiet single) writeReady) 0xE0).progMode = true ∧ single.runtime = true ∧
    (writing (programming (quiet boot) writeReady) 0xE0).WriteAccess .cmd ∧
    (writing (programming (quiet boot) writeReady) 0xE0).progMode = true ∧ boot.runtime = false := by decide

theorem witness_LowAddressByteIsKept :
    let s := writing (programming (quiet single) (freshSession .write)) 0xE1
    s.WriteAccess .cmdp ∧ s.progMode = true ∧ s.ses.phase = .addrLo := by decide

/-- The last word of the flash, and the first past it. -/
theorem witness_HighAddressByteSetsTheTarget :
    let s := writing (programming (quiet single) { freshSession .erase with phase := .addrHi }) 0xE2
    let u := writing (programming (quiet single) { freshSession .erase with phase := .addrHi, addrLo := 0xFF }) 0xE2
    s.WriteAccess .cmdp ∧ s.progMode = true ∧ s.ses.phase = .addrHi ∧
    s.cfg.flashWords ≤ ((0x40 : Byte).toNat * 256 + s.ses.addrLo.toNat) / 2 ∧
    u.WriteAccess .cmdp ∧ u.progMode = true ∧ u.ses.phase = .addrHi ∧
    ((0x3F : Byte).toNat * 256 + u.ses.addrLo.toNat) / 2 < u.cfg.flashWords := by decide

theorem witness_LengthByteOfAWrite :
    let s := writing (programming (quiet single) writeLen) 0xE3
    s.WriteAccess .cmdp ∧ s.progMode = true ∧ s.ses.phase = .len ∧ s.ses.cmd = .write ∧
    2 ≤ (0x02 : Byte).toNat ∧ (0x01 : Byte).toNat < 2 := by decide

theorem witness_LengthByteOfAReadFillsTheBuffer :
    let s := writing (programming (quiet single) readLen) 0xE3
    s.Inv ∧ s.WriteAccess .cmdp ∧ s.progMode = true ∧ s.ses.phase = .len ∧ s.ses.cmd = .read :=
  ⟨kept_inv 5, by decide⟩

theorem witness_UnexpectedBytesAreIgnored :
    (let s := writing (programming (quiet single) eraseReady) 0xE3
     s.WriteAccess .cmdp ∧ s.progMode = true ∧ s.ses.phase ≠ .addrLo ∧ s.ses.phase ≠ .addrHi ∧ s.ses.phase ≠ .len) ∧
    (let s := writing (programming (quiet single) readData) 0x00
     s.WriteAccess .data ∧ ¬ s.ses.InData .write ∧ s.ses.phase ≠ .awaitConfirm) ∧
    (let s := reading (programming (quiet single) writeData) 0x00
     s.ReadAccess .data ∧ ¬ s.ses.InData .read ∧ s.ses.phase ≠ .csumOut) := by decide

theorem witness_DataBytesFillTheBuffer :
    ((writing (programming (quiet single) writeData) 0x00).WriteAccess .data ∧ writeData.InData .write ∧
      writeData.hi = false) ∧
    (writing (programming (quiet single) writeLast) 0x03).WriteAccess .data ∧ writeLast.InData .write ∧
    writeLast.hi = true ∧ writeLast.idx + 1 = writeLast.nwords ∧
    (writing (programming (quiet single) writeHigh) 0x01).WriteAccess .data ∧ writeHigh.InData .write ∧
    writeHigh.hi = true ∧ writeHigh.idx + 1 ≠ writeHigh.nwords := by decide

theorem witness_ConfirmationByteDecides :
    let s := writing (programming (quiet confirming) awaiting) 0x00
    s.WriteAccess .data ∧ s.ses.phase = .awaitConfirm ∧ (0x21 : Byte) = s.cfg.cWrite ∧ (0x22 : Byte) ≠ s.cfg.cWrite := by
  decide

theorem witness_DataReadsServeTheBuffer :
    ((reading (programming (quiet single) readData) 0x00).ReadAccess .data ∧ readData.InData .read ∧
      readData.hi = false) ∧
    (reading (programming (quiet single) readHighNext) 0x01).ReadAccess .data ∧ readHighNext.InData .read ∧
    readHighNext.hi = true := by decide

theorem witness_ChecksumByteIsServed :
    ((reading (programming (quiet single) readSum) 0x02).ReadAccess .data ∧ readSum.phase = .csumOut ∧
      readSum.cmd = .read) ∧
    ((reading (programming (quiet single) writeSum) 0x04).ReadAccess .data ∧ writeSum.phase = .csumOut ∧
      writeSum.cmd = .write ∧ single.writeCommit = .afterChecksum) ∧
    (reading (programming (quiet confirming) writeSum) 0x04).ReadAccess .data ∧
      confirming.writeCommit = .afterConfirm := by decide

theorem witness_IdlePassChangesNothing :
    let s := programming (quiet single) writeSum
    s.pend = none ∧ s.ses.phase ≠ .writeReady ∧ s.ses.phase ≠ .eraseReady := by decide

theorem witness_PassWritesTheQueuedWords :
    let s := programming (quiet single) rowEnd
    s.Inv ∧ s.pend = none ∧ s.ses.phase = .writeReady :=
  ⟨kept_inv 7, by decide⟩

theorem witness_PassErasesTheQueuedRow :
    let s := programming (quiet single) { eraseReady with waddr := 0x1FFF }
    s.pend = none ∧ s.ses.phase = .eraseReady := by decide

theorem witness_ProgramEnableEntersProgrammingMode :
    (pending (quiet single) 0x30).pend = some (pending (quiet single) 0x30).cfg.cProgEn := by decide

theorem witness_ConfigCommandsSetTheMode :
    ((pending (quiet single) 0x31).Inv ∧ (pending (quiet single) 0x31).pend = some single.cCfgEn) ∧
    (pending (quiet single) 0x32).Inv ∧ (pending (quiet single) 0x32).pend = some single.cCfgDis :=
  ⟨⟨kept_inv 9, by decide⟩, kept_inv 10, by decide⟩

theorem witness_CalibrationLoadsFillTheRange :
    ((pending (quiet single) 0x33).Inv ∧ (pending (quiet single) 0x33).pend = some single.cCalLoad) ∧
    (pending (quiet single) 0x35).Inv ∧ (pending (quiet single) 0x35).pend = some single.cCalDefault :=
  ⟨⟨kept_inv 11, by decide⟩,
    kept_inv 13, by decide⟩

theorem witness_CalibrationStorePersistsTheRange :
    (pending (quiet single) 0x34).Inv ∧ (pending (quiet single) 0x34).pend = some single.cCalStore :=
  ⟨kept_inv 12, by decide⟩

theorem witness_EncryptionEnableFollowsTheDerivation :
    (pending (quiet single) 0x36).Inv ∧ (pending (quiet single) 0x36).pend = some single.cEncEn :=
  ⟨kept_inv 14, by decide⟩

theorem witness_UnknownRuntimeCodesDoNothing :
    (∀ c ∈ single.runtimeCodes, (0x99 : Byte) ≠ c) ∧
    ((writing (quiet single) 0xE0).WriteAccess .cmd ∧ (writing (quiet single) 0xE0).progMode = false) ∧
    (pending (quiet single) 0x99).Inv ∧ (pending (quiet single) 0x99).pend = some 0x99 ∧
    (pending (quiet single) 0x23).Inv ∧ (pending (quiet single) 0x23).pend = some single.cDisable :=
  ⟨by decide, by decide, kept_inv 15, by decide, kept_inv 17, by decide⟩

theorem witness_EveryStepKeepsTheInvariant :
    ∃ t, (programming (quiet single) writeReady).Inv ∧ step (programming (quiet single) writeReady) = .next t :=
  ⟨_, kept_inv 6, rfl⟩

theorem witness_SessionInvariantsArePreserved :
    ∃ t, SessionInv single.flashWords writeReady ∧ step (programming (quiet single) writeReady) = .next t :=
  ⟨_, by decide, rfl⟩

theorem witness_FlashCallsFollowTheRowPolicy :
    ∃ t, (programming (quiet single) rowEnd).Inv ∧ step (programming (quiet single) rowEnd) = .next t ∧
      0x3FF < single.boundary :=
  ⟨_, kept_inv 7, rfl, by decide⟩

/-- The inputs of a WRITE session of zero words, from its command byte on. -/
def writeInputs : State :=
  { writing (programming (quiet single) Session.idle) 0xE0 with
    inbox := [.write 0x21, .write 0x00, .write 0x08, .write 0x01] }

theorem witness_SessionBytesAndChecksumSumToZero : ∃ bs s, SessionTrace bs s ∧ s.ses.phase = .csumOut := by
  have h0 := SessionTrace.start writeInputs _ rfl (.inl rfl)
  have h1 := SessionTrace.move _ _ _ h0 rfl (fun i h => by cases h; exact ⟨rfl, by decide⟩)
  have h2 := SessionTrace.move _ _ _ h1 rfl (fun i h => by cases h; exact ⟨rfl, by decide⟩)
  have h3 := SessionTrace.move _ _ _ h2 rfl (fun i h => by cases h; exact ⟨rfl, by decide⟩)
  exact ⟨_, _, h3, rfl⟩

theorem witness_TransactionsStayInTheirHalf :
    (∃ t, step { writing (quiet dual) 0xFF with dev := .b, inbox := [.write 0x02] } = .next t ∧
      ¬ (Dev.b ≠ .none ∧ 255 / 256 = half .b)) ∧
    (∃ t, exec (.wr 0x02) { writing (quiet dual) 0x00 with dev := .b } = .next t ∧
      Dev.b ≠ .none ∧ 256 / 256 = half .b ∧ ((quiet dual).rf.set 0 0x77).length = (quiet dual).rf.length ∧
      ∀ j, j / 256 = half .b → ((quiet dual).rf.set 0 0x77).getD j 0 = (quiet dual).rf.getD j 0) ∧
    (writing (quiet dual) 0xE0).WriteAccess .cmd ∧ (writing (quiet dual) 0xE3).WriteAccess .cmdp ∧
    (reading (programming (quiet dual) readData) 0x00).ReadAccess .data := by
  refine ⟨⟨_, rfl, by decide⟩, ⟨_, rfl, by decide, by decide, by simp, fun j h => ?_⟩, by decide, by decide, by decide⟩
  have h0 : 0 ≠ j := by
    rintro rfl
    exact absurd h (by decide)
  rw [List.getD_eq_getElem?_getD, List.getD_eq_getElem?_getD, List.getElem?_set_ne h0]

/-- A CAL-STORE, then a CAL-LOAD sent and run. -/
def storeThenLoad : State :=
  { writing (pending (quiet single) 0x34) 0xE0 with inbox := [.tick, .write 0x33, .tick] }

theorem witness_CalibrationRoundTrip :
    ∃ s t u v, s.Inv ∧ stepRow s = some .rcmdCalStore ∧ step s = .next t ∧ RunWithoutCalStore t u ∧
      stepRow u = some .rcmdCalLoad ∧ step u = .next v ∧ 13 < s.cfg.calLen :=
  ⟨storeThenLoad, _, _, _, kept_inv 16, rfl, rfl, .more _ _ _ (.refl _) rfl (by decide), rfl, rfl, by decide⟩

/-- The next step from `s` changes the field `f` (the pieces of state of the statement below). -/
def moves {α : Type} [DecidableEq α] (s : State) (f : State → α) : Bool :=
  match step s with
  | .next t => decide (f t ≠ f s)
  | _ => false

theorem witness_EachStatePieceHasItsWriters :
    (programming (quiet single) writeReady).Inv ∧ moves (programming (quiet single) writeReady) State.flash = true ∧
    (pending (quiet single) 0x30).Inv ∧ moves (pending (quiet single) 0x30) State.progMode = true ∧
    (pending (quiet single) 0x31).Inv ∧ moves (pending (quiet single) 0x31) State.cfgMode = true :=
  ⟨kept_inv 6, by rfl, kept_inv 8, by rfl, kept_inv 9, by rfl⟩

/-- The clauses about the calibration store, the key, the register file, the slot and the session. -/
theorem witness_EachStatePieceHasItsWriters_stores :
    moves (pending { quiet single with rf := (quiet single).rf.set 0x20 0x99 } 0x34) State.calStore ∧
    moves (pending (keyed (quiet single)) 0x36) State.xkey ∧
    moves { writing (quiet single) 0x1F with inbox := [.write 0x11] } State.rf ∧
    moves { writing (quiet single) 0xE0 with inbox := [.write 0x30] } State.pend ∧
    moves { writing (programming (quiet single) Session.idle) 0xE0 with inbox := [.write 0x20] } State.ses := by
  decide +kernel

/-- The clauses about the transaction, the cursor, the log and the draws. -/
theorem witness_EachStatePieceHasItsWriters_bus :
    moves { quiet single with inbox := [.address 0xA4] } State.dev ∧
    moves { quiet single with inbox := [.address 0xA4] } State.expectPtr ∧
    moves { quiet single with inbox := [.ovf] } State.ovf ∧
    moves { quiet single with ovf := true, inbox := [.stop] } State.ovf ∧
    moves { writing (quiet single) 0xFF with inbox := [.write 0x00] } State.ptr ∧
    moves { reading (quiet single) 0xFF with inbox := [.read] } State.outLog ∧
    moves { quiet single with inbox := [.reset] } State.draws := by
  decide +kernel

theorem witness_LatestCommandByteWins :
    (programming (quiet single) writeReady).progMode = true ∧ (pending (quiet single) 0x31).progMode = false := by decide

theorem witness_QueuedActionIsRunWhenNothingWaits :
    (programming (quiet single) writeReady).Inv ∧ (programming (quiet single) writeReady).inbox = [] ∧
    (pending (quiet single) 0x30).Inv ∧ (pending (quiet single) 0x30).inbox = [] :=
  ⟨kept_inv 6, rfl, kept_inv 8, rfl⟩

theorem witness_NoErrorClassStopsTheBlock :
    errorClass (.wr 0x00) { writing (quiet dualLoose) 0 with dev := .none } = some .unaddressed ∧
    errorClass .rd { reading (quiet single) 0 with ovf := true } = some .overflow ∧
    errorClass (.wrInvalid 0x12) (writing (quiet single) 0x80) = some .regRange ∧
    errorClass (.paramLen 0x41) (writing (programming (quiet single) writeLen) 0xE3) = some .clamp ∧
    errorClass .tick (programming (quiet single) { eraseReady with waddr := 0x03FF }) = some .boundary :=
  ⟨rfl, rfl, rfl, rfl, rfl⟩

/-- The labels of an address past the flash, of bytes out of phase, and of a refused key. -/
theorem witness_NoErrorClassStopsTheBlock_session :
    errorClass (.paramAddrHi 0x40)
      (writing (programming (quiet single) { freshSession .erase with phase := .addrHi }) 0xE2) = some .flashRange ∧
    errorClass (.paramOther 0x12) (writing (programming (quiet single) Session.idle) 0xE3) = some .malformed ∧
    errorClass (.dataWrOther 0x12) (writing (programming (quiet single) Session.idle) 0x7F) = some .malformed ∧
    errorClass .dataRdOther (reading (programming (quiet single) Session.idle) 0x00) = some .malformed ∧
    errorClass .rcmdEncEn (pending (quiet single) 0x36) = some .key := by
  decide

theorem witness_BytesOfACutTransactionAreIgnored :
    single.wf = true ∧
    ({ reading (quiet single) 0x00 with inbox := [.reset, .read] }.bus = .ours ∧
      (reading (quiet single) 0x00).dir ≠ .none) ∧
    { quiet single with bus := .cutWrite, inbox := [.write 0x11, .stop] }.inbox = .write 0x11 :: [.stop] ∧
    ({ quiet single with bus := .cutRead, inbox := [.write 0x11] }.dir = .none ∧ (quiet single).dir = .none) ∧
    { quiet single with bus := .cutRead, inbox := [.read, .read] }.inbox = .read :: [.read] ∧
    ({ quiet single with bus := .cutRead, inbox := [.address 0xA5] }.bus = .cutRead ∧
      single.matchesAddr (addressField 0xA5) = true) := by decide

end Sys2Proof.Tests
end

section
/-! The checks of a configuration (00_scope.md R12): each one said without the function that runs it, then all of them
together. -/

namespace Sys2Proof.Machine

open Sys2Proof

/-! ### Ranges and codes -/

/-- A list of ranges passes `rangesFit` exactly when its pairs of numbers are apart. -/
theorem rangesFit_iff_rangesApart (l : List (Nat × Nat)) :
    rangesFit (l.map fun p => ⟨p.1, p.2⟩) = true ↔ RangesApart l := by
  simp only [rangesFit_iff, RegRange.disjoint_iff, List.forall_mem_map, List.pairwise_map]

theorem check3_iff (c : Config) :
    c.check3 = true ↔ RangesApart [(c.appBase, c.appLen), (c.calBase, c.calLen), (c.keyBase, 16), (c.cmdReg, 4),
      (c.customReg, 1), (c.idBase, 6)] := by
  rw [← rangesFit_iff_rangesApart]
  rfl

theorem check4_iff (c : Config) :
    c.check4 = true ↔ RangesApart [(c.dataBase, c.dataLen), (c.cmdReg, 4), (c.customReg, 1), (c.idBase, 6)] := by
  rw [← rangesFit_iff_rangesApart]
  rfl

/-- The eleven codes are distinct when the two lists are, and share no byte. -/
theorem checkCodes_iff (c : Config) :
    c.checkCodes = true ↔ c.check1 = true ∧ c.check2 = true ∧ ∀ b ∈ c.progCodes, b ∉ c.runtimeCodes := by
  simp only [Config.checkCodes, Config.check1, Config.check2, allDistinct_iff, List.nodup_append', List.Disjoint]

/-! ### Sizes and addresses -/

theorem check9_iff (c : Config) : c.check9 = true ↔ c.boundary ≤ c.flashWords ∧ c.flashWords ≤ 0x10000 := by
  simp only [Config.check9, Bool.and_eq_true, decide_eq_true_eq]

theorem check10_iff (c : Config) :
    c.check10 = true ↔
      (c.dual = true → c.addrA ≠ c.addrB ∧ c.addrA &&& c.addrMask = c.addrB &&& c.addrMask) ∧
      (c.dual = false → c.addrMask = 0x7F) := by
  unfold Config.check10
  cases c.dual with
  | true => simp
  | false => simp

theorem checkCalLen_iff (c : Config) : c.checkCalLen = true ↔ c.calLen = 14 ∨ c.calLen = 32 := by
  simp only [Config.checkCalLen, Bool.or_eq_true, beq_iff_eq]

theorem checkIds_iff (c : Config) : c.checkIds = true ↔ c.idA.length = 6 ∧ c.idB.length = 6 := by
  simp only [Config.checkIds, Bool.and_eq_true, beq_iff_eq]

/-! ### All the checks -/

/-- The executable check of a configuration is the checks of R12 as the spec words them. -/
theorem wf_iff_passesChecks (c : Config) : c.wf = true ↔ PassesChecks c := by
  have h1 : c.check1 = true ↔ c.progCodes.Nodup := allDistinct_iff _
  have h2 : c.check2 = true ↔ c.runtimeCodes.Nodup := allDistinct_iff _
  have h5 : c.check5 = true ↔ c.dataBase = c.appBase := beq_iff_eq
  have h6 : c.check6 = true ↔ 65 ≤ c.dataLen := decide_eq_true_iff
  have h7 : c.check7 = true ↔ c.boundary % 32 = 0 := beq_iff_eq
  have h8 : c.check8 = true ↔ c.flashWords % 32 = 0 := beq_iff_eq
  have h11 : c.check11 = true ↔ c.calDefault.length = c.calLen := beq_iff_eq
  rw [Config.wf_iff, checkCodes_iff, h1, h2, check3_iff, check4_iff, h5, h6, h7, h8, check9_iff, check10_iff, h11,
    checkCalLen_iff, checkIds_iff]
  constructor
  · rintro ⟨prog, run, r3, r4, base, len, brow, frow, flash, ⟨dual, single⟩, cal, ⟨-, -, apart⟩, calLen, ids⟩
    exact ⟨prog, run, r3, r4, base, len, brow, frow, flash, dual, single, cal, calLen, ids, apart⟩
  · rintro ⟨prog, run, r3, r4, base, len, brow, frow, flash, dual, single, cal, calLen, ids, apart⟩
    exact ⟨prog, run, r3, r4, base, len, brow, frow, flash, ⟨dual, single⟩, cal, ⟨prog, run, apart⟩, calLen, ids⟩

end Sys2Proof.Machine
end

section
/-! One step: its two equations, the input it takes, and why it can refuse. -/

namespace Sys2Proof.Machine

open Sys2Proof

/-! ### The equations of a step -/

theorem step_of_wf {s : State} (h : s.cfg.wf = true) : step s = runFetched s.cfg (fetch s) := if_pos h

theorem step_of_not_wf {s : State} (h : ¬ s.cfg.wf = true) : step s = .refused .badConfig := if_neg h

theorem runFetched_row {c : Config} {slot : Slot} {bytes : List Byte} {i : Instr} (h : decode c slot bytes = .ok i)
    (t : State) : runFetched c (.row slot bytes t) = exec i t := by
  simp only [runFetched, h]

/-! ### The input that is taken -/

/-- Taking an input for a row removes the oldest event; a pass with nothing waiting takes none. -/
theorem fetch_row_inbox {s t : State} {slot : Slot} {bytes : List Byte} (h : fetch s = .row slot bytes t) :
    t.inbox = s.inbox.tail := by
  unfold fetch at h
  cases hin : s.inbox with
  | nil =>
    simp only [hin] at h
    cases h
    exact hin
  | cons e rest =>
    simp only [hin] at h
    cases e with
    | address b =>
      dsimp only at h
      split_ifs at h
      cases h
      rfl
    | write b =>
      cases hb : s.bus <;> simp only [hb] at h <;> cases h
      all_goals rfl
    | read =>
      cases hb : s.bus <;> simp only [hb] at h <;> cases h
      all_goals rfl
    | _ =>
      cases h
      rfl

/-! ### Why a step refuses -/

theorem rowWhen_refused {b : Bool} {t : State} {r : Refusal} (h : rowWhen b t = .refused r) : r = .notThisRow := by
  unfold rowWhen at h
  split_ifs at h
  cases h
  rfl

theorem execWr_refused {d : Byte} {s : State} {r : Refusal} (h : execWr d s = .refused r) : r = .hostGrammar := by
  unfold execWr at h
  split_ifs at h
  cases h
  rfl

theorem execRd_refused {s : State} {r : Refusal} (h : execRd s = .refused r) : r = .hostGrammar := by
  unfold execRd at h
  split_ifs at h
  cases h
  rfl

theorem execAppwr_not_refused (idx : BitVec 9) (b : Byte) (s : State) (r : Refusal) :
    execAppwr idx b s ≠ .refused r := by
  unfold execAppwr
  split_ifs <;> simp

/-- An instruction refuses only for the host's grammar (WR, RD) or for a selector that does not hold (the rows). -/
theorem exec_refused {i : Instr} {s : State} {r : Refusal} (h : exec i s = .refused r) :
    r = .hostGrammar ∨ r = .notThisRow := by
  cases i with
  | wr d => exact .inl (execWr_refused h)
  | rd => exact .inl (execRd_refused h)
  | appwr idx b => exact absurd h (execAppwr_not_refused idx b s r)
  | stop => cases h
  | ovf => cases h
  | tick => cases h
  | reset => cases h
  | _ => exact .inr (rowWhen_refused h)

/-- What was fetched is refused only by its instruction, or for bytes that are none. -/
theorem runFetched_refused {c : Config} {f : Fetched} {r : Refusal} (h : runFetched c f = .refused r) :
    r = .hostGrammar ∨ r = .notThisRow ∨ ∃ e, r = .undecoded e := by
  cases f with
  | other t => cases h
  | row slot bytes t =>
    cases hd : decode c slot bytes with
    | ok i =>
      rw [runFetched_row hd] at h
      exact (exec_refused h).imp_right .inl
    | error e =>
      simp only [runFetched, hd] at h
      cases h
      exact .inr (.inr ⟨e, rfl⟩)

/-- A step refuses for its configuration exactly when that is ill-formed. -/
theorem step_eq_badConfig_iff (s : State) : step s = .refused .badConfig ↔ ¬ s.cfg.wf = true := by
  refine ⟨fun h hwf => ?_, step_of_not_wf⟩
  rw [step_of_wf hwf] at h
  obtain hr | hr | ⟨e, hr⟩ := runFetched_refused h <;> cases hr

end Sys2Proof.Machine
end

section
/-! The statements on the configuration and on the step. -/

namespace Sys2Proof.Machine

open Sys2Proof

/-- Settles O8: the executable check is R12's, and only that check refuses a configuration. -/
theorem illFormedConfigurationsAreRefused : Obligations.IllFormedConfigurationsAreRefused := by
  refine ⟨fun s h => ?_, fun s h => ?_, (wf_iff_passesChecks _).mp reference_wf⟩
  · exact (step_eq_badConfig_iff s).mpr (mt (wf_iff_passesChecks s.cfg).mp h)
  · exact fun hs => (step_eq_badConfig_iff s).mp hs ((wf_iff_passesChecks s.cfg).mpr h)

/-- Settles O4: the step's equation, and what taking an input leaves unchanged. -/
theorem stepRunsTheDecodedInstruction : Obligations.StepRunsTheDecodedInstruction := by
  intro s slot bytes t i hwf hf hd
  have hstep : step s = exec i t := by rw [step_of_wf hwf, hf, runFetched_row hd]
  exact ⟨hstep, fetch_row_inbox hf, (fetch_frame s).1 slot bytes t hf⟩

end Sys2Proof.Machine
end

section
/-! The moves of the programming session (42_programming_session.md): each byte's row as a move of the session record,
said once, and what every move keeps. -/

namespace Sys2Proof.Machine

open Sys2Proof

/-- The move of the session record `x` by a byte's row (R131 to R156), with what the invariants need of it. The moves
to the idle session by DISABLE (R134) and by the main loop (R161) are not moves of a byte alone, and stand apart. -/
inductive SesMove (c : Config) (x : Session) : Instr → Session → Prop where
  | erase : SesMove c x .pcmdErase (freshSession .erase)
  | write : SesMove c x .pcmdWrite (freshSession .write)
  | read : SesMove c x .pcmdRead (freshSession .read)
  | unknown (code : Byte) : SesMove c x (.pcmdOther code) Session.idle
  | addrLo (p : Byte) (phase : x.phase = .addrLo) :
      SesMove c x (.paramAddrLo p) { x with addrLo := p, phase := .addrHi }
  | pastEnd (p : Byte) : SesMove c x (.paramAddrHi p) Session.idle
  | addrHi (p acc : Byte) (wa : Word) (phase : x.phase = .addrHi) (inside : wa.toNat < c.flashWords) :
      SesMove c x (.paramAddrHi p)
        { x with acc := acc, waddr := wa, phase := if x.cmd = .erase then .eraseReady else .len }
  | length (p acc : Byte) (buf : List Word) (phase : x.phase = .len)
      (full : x.buf.length = maxWords → buf.length = maxWords) :
      SesMove c x (.paramLen p)
        (beginData { x with acc := acc, nwords := wordCount p, idx := 0, hi := false, buf := buf })
  | writeLow (d : Byte) (phase : x.phase = .data) : SesMove c x (.dataWrLo d) { x with lo := d, hi := true }
  | writeHigh (d acc : Byte) (buf : List Word) (phase : x.phase = .data) (full : buf.length = x.buf.length) :
      SesMove c x (.dataWrHi d) (endWord { x with buf := buf, acc := acc, idx := x.idx + 1, hi := false })
  | confirmed (d : Byte) (phase : x.phase = .awaitConfirm) :
      SesMove c x (.dataWrConfirm d) { x with phase := .writeReady }
  | cancelled (d : Byte) : SesMove c x (.dataWrConfirm d) Session.idle
  | readLow (phase : x.phase = .data) : SesMove c x .dataRdLo { x with hi := true }
  | readHigh (acc : Byte) (phase : x.phase = .data) :
      SesMove c x .dataRdHi (endWord { x with acc := acc, idx := x.idx + 1, hi := false })
  | served (next : Phase) (phase : x.phase = .csumOut) (cmd : x.cmd = .write)
      (queued : next = .writeReady ∨ next = .awaitConfirm) : SesMove c x .dataRdCsum { x with phase := next }
  | ended : SesMove c x .dataRdCsum Session.idle

/-! ### The session invariants (10_state.md R34) -/

theorem sessionInv_idle (n : Nat) : SessionInv n Session.idle := by
  simp [SessionInv, Session.idle]

theorem sessionInv_fresh (n : Nat) {cmd : SesCmd} (h : cmd ≠ .none) : SessionInv n (freshSession cmd) := by
  simp [SessionInv, freshSession, Session.idle, h]

/-- In a data phase or at its end: a data command, a target in the flash, and no more words done than asked for. -/
structure Session.Transfers (n : Nat) (x : Session) : Prop where
  done : x.idx ≤ x.nwords
  fits : x.nwords ≤ maxWords
  data : x.cmd = .write ∨ x.cmd = .read
  target : x.waddr.toNat < n

theorem Session.Transfers.not_none {n : Nat} {x : Session} (h : x.Transfers n) : x.cmd ≠ .none := by
  rcases h.data with e | e <;> simp [e]

theorem transfers_of_len_or_data {n : Nat} {x : Session} (h : SessionInv n x) (p : x.phase = .len ∨ x.phase = .data) :
    x.Transfers n := by
  obtain ⟨⟨done, fits⟩, -, -, -, data, -, -, -, target⟩ := h
  rcases p with p | p <;> exact ⟨done, fits, data (by simp [p]), target (by simp [p])⟩

theorem sessionInv_finalize {n : Nat} {x : Session} (h : x.Transfers n) (hi : x.hi = false) :
    SessionInv n (finalizeSession x) := by
  simp [SessionInv, finalizeSession, h.done, h.fits, h.data, h.target, h.not_none, hi]

/-- A data phase with words to go (R34 (7)). -/
theorem sessionInv_data {n : Nat} {x : Session} (h : x.Transfers n) (p : x.phase = .data) (more : x.idx < x.nwords) :
    SessionInv n x := by
  simp [SessionInv, p, h.done, h.fits, h.data, h.target, h.not_none, more]

theorem sessionInv_beginData {n : Nat} {x : Session} (h : x.Transfers n) (hi : x.hi = false) (start : x.idx = 0) :
    SessionInv n (beginData x) := by
  unfold beginData
  split_ifs with hn
  · exact sessionInv_finalize h hi
  · exact sessionInv_data ⟨h.done, h.fits, h.data, h.target⟩ rfl (start ▸ Nat.pos_of_ne_zero hn)

theorem sessionInv_endWord {n : Nat} {x : Session} (h : x.Transfers n) (p : x.phase = .data) (hi : x.hi = false) :
    SessionInv n (endWord x) := by
  unfold endWord
  split_ifs with hn
  · exact sessionInv_finalize h hi
  · exact sessionInv_data h p (Nat.lt_of_le_of_ne h.done hn)

/-- Every move keeps the session invariants. -/
theorem SesMove.keeps_sessionInv {c : Config} {x y : Session} {i : Instr} (h : SesMove c x i y)
    (hx : SessionInv c.flashWords x) : SessionInv c.flashWords y := by
  have transfers := transfers_of_len_or_data hx
  obtain ⟨⟨done, fits⟩, -, opened, -, -, confirm, more, hi, target⟩ := hx
  cases h with
  | erase => exact sessionInv_fresh _ (by simp)
  | write => exact sessionInv_fresh _ (by simp)
  | read => exact sessionInv_fresh _ (by simp)
  | unknown code => exact sessionInv_idle _
  | addrLo p phase => simp_all [SessionInv]
  | pastEnd p => exact sessionInv_idle _
  | addrHi p acc wa phase inside =>
    by_cases he : x.cmd = .erase
    · simp_all [SessionInv]
    · have hdata : x.cmd = .write ∨ x.cmd = .read := by cases hc : x.cmd <;> simp_all
      simp_all [SessionInv]
  | length p acc buf phase full =>
    have ht := transfers (.inl phase)
    exact sessionInv_beginData ⟨Nat.zero_le _, wordCount_le p, ht.data, ht.target⟩ rfl rfl
  | writeLow d phase =>
    have ht := transfers (.inr phase)
    exact sessionInv_data ⟨ht.done, ht.fits, ht.data, ht.target⟩ phase (more phase)
  | writeHigh d acc buf phase full =>
    have ht := transfers (.inr phase)
    exact sessionInv_endWord ⟨more phase, ht.fits, ht.data, ht.target⟩ phase rfl
  | confirmed d phase => simp_all [SessionInv]
  | cancelled d => exact sessionInv_idle _
  | readLow phase =>
    have ht := transfers (.inr phase)
    exact sessionInv_data ⟨ht.done, ht.fits, ht.data, ht.target⟩ phase (more phase)
  | readHigh acc phase =>
    have ht := transfers (.inr phase)
    exact sessionInv_endWord ⟨more phase, ht.fits, ht.data, ht.target⟩ phase rfl
  | served next phase cmd queued => rcases queued with rfl | rfl <;> simp_all [SessionInv]
  | ended => exact sessionInv_idle _

/-! ### The buffer, and the rows of the moves -/

@[simp] theorem beginData_buf (x : Session) : (beginData x).buf = x.buf := by
  unfold beginData
  split_ifs <;> rfl

@[simp] theorem endWord_buf (x : Session) : (endWord x).buf = x.buf := by
  unfold endWord
  split_ifs <;> rfl

/-- Every move keeps the buffer at its length (R33). -/
theorem SesMove.keeps_bufLength {c : Config} {x y : Session} {i : Instr} (h : SesMove c x i y)
    (hx : x.buf.length = maxWords) : y.buf.length = maxWords := by
  cases h with
  | length p acc buf phase full => simpa using full hx
  | writeHigh d acc buf phase full => simpa using full.trans hx
  | readHigh acc phase => simpa using hx
  | addrLo => exact hx
  | addrHi => exact hx
  | writeLow => exact hx
  | confirmed => exact hx
  | readLow => exact hx
  | served => exact hx
  | _ => rfl

/-- The rows of the moves are rows that may write the session (R159). -/
theorem SesMove.row_isSessionRow {c : Config} {x y : Session} {i : Instr} (h : SesMove c x i y) :
    isSessionRow i = true := by
  cases h <;> rfl

end Sys2Proof.Machine
end

section
/-! What a step can do: the effect of the row of a written byte, of a requested byte and of a pass, then of a step. -/

namespace Sys2Proof.Machine

open Sys2Proof

/-! ### The selectors of the session -/

theorem phase_of_paramRole {ph : Phase} :
    (paramRole ph = .addrLo → ph = .addrLo) ∧ (paramRole ph = .addrHi → ph = .addrHi) ∧
      (paramRole ph = .len → ph = .len) := by
  cases ph <;> simp [paramRole]

/-- A data byte to write arrives in phase DATA, a confirmation byte in AWAIT_CONFIRM (R147). -/
theorem phase_of_chanWriteRole {x : Session} :
    (chanWriteRole x = .lo ∨ chanWriteRole x = .hi → x.phase = .data) ∧
      (chanWriteRole x = .confirm → x.phase = .awaitConfirm) := by
  unfold chanWriteRole
  split_ifs with hd hi hc
  · simp [hd]
  · simp [hd]
  · simp [hc]
  · simp

/-- A data byte is read in phase DATA, the checksum in CSUM_OUT (R152). -/
theorem phase_of_chanReadRole {x : Session} :
    (chanReadRole x = .lo ∨ chanReadRole x = .hi → x.phase = .data) ∧
      (chanReadRole x = .csum → x.phase = .csumOut) := by
  unfold chanReadRole
  split_ifs with hd hi hc
  · simp [hd]
  · simp [hd]
  · simp [hc]
  · simp

theorem progMode_of_commandsSession {s : State} (h : commandsSession s = true) : s.progMode = true :=
  (Bool.and_eq_true_iff.mp h).2

theorem of_paramsSession {s : State} {p : ParamRole} (h : paramsSession s p = true) :
    s.progMode = true ∧ paramRole s.ses.phase = p := by
  simp only [paramsSession, Bool.and_eq_true, beq_iff_eq] at h
  exact ⟨h.1.2, h.2⟩

theorem of_channelWrites {s : State} {w : ChanWrite} (h : channelWrites s w = true) :
    s.progMode = true ∧ chanWriteRole s.ses = w := by
  simp only [channelWrites, Bool.and_eq_true, beq_iff_eq, writesAt_iff] at h
  obtain ⟨⟨-, -, -, -, region⟩, role⟩ := h
  exact ⟨progMode_of_region_data region, role⟩

theorem of_channelReads {s : State} {r : ChanRead} (h : channelReads s r = true) :
    s.progMode = true ∧ chanReadRole s.ses = r := by
  simp only [channelReads, Bool.and_eq_true, beq_iff_eq, readsAt_iff] at h
  obtain ⟨⟨-, -, -, region⟩, role⟩ := h
  exact ⟨progMode_of_region_data region, role⟩

/-! ### A written byte -/

/-- What the row of a written byte does (40_bus_front_end.md R96 to R98; 41_register_access.md R111 to R119). -/
inductive WriteEffect (s : State) : Instr → State → Prop where
  | closed (d : Byte) : WriteEffect s (.wr d) s
  | pointer (r : Byte) : WriteEffect s (.ptr r) (loadPointer r s)
  | skipped (i : Instr) : WriteEffect s i (afterWrite s s)
  | register {i : Instr} (row : isRegisterFileRow i = true) (j : Nat) (v : Byte) :
      WriteEffect s i (afterWrite s (s.rfWrite j v))
  | pending (d : Byte) (mode : s.progMode = false) : WriteEffect s (.wrCmd d) (afterWrite s (s.setPend (some d)))
  | session {i : Instr} {x : Session} (mode : s.progMode = true) (move : SesMove s.cfg s.ses i x) :
      WriteEffect s i (afterWrite s (s.setSes x))
  | fill (p : Byte) {x : Session} (wa n : Nat) (mode : s.progMode = true) (move : SesMove s.cfg s.ses (.paramLen p) x) :
      WriteEffect s (.paramLen p) (afterWrite s ((memRead wa n s).setSes x))
  | disable (mode : s.progMode = true) : WriteEffect s .pcmdDisable (afterWrite s (doDisable s))

/-- A command byte of programming mode (R131). -/
theorem command_effect {s t : State} {b : Byte} (h : exec (decodeProgCommand s.cfg b) s = .next t) :
    WriteEffect s (decodeProgCommand s.cfg b) t := by
  revert h
  unfold decodeProgCommand
  split_ifs <;> intro h <;> obtain ⟨selected, rfl⟩ := (rowWhen_next_iff _ _ _).mp h
  · exact .session (progMode_of_commandsSession selected) .erase
  · exact .session (progMode_of_commandsSession selected) .write
  · exact .session (progMode_of_commandsSession selected) .read
  · exact .disable (progMode_of_commandsSession selected)
  · exact .session (progMode_of_commandsSession (Bool.and_eq_true_iff.mp selected).1) (.unknown b)

/-- A parameter byte (R137). -/
theorem param_effect {s t : State} {b : Byte} {p : ParamRole} (h : exec (decodeParam b p) s = .next t) :
    WriteEffect s (decodeParam b p) t := by
  obtain ⟨lo, hi, len⟩ := phase_of_paramRole (ph := s.ses.phase)
  cases p with
  | addrLo =>
    obtain ⟨selected, rfl⟩ := (rowWhen_next_iff _ _ _).mp h
    obtain ⟨mode, role⟩ := of_paramsSession selected
    exact .session mode (.addrLo b (lo role))
  | addrHi =>
    obtain ⟨selected, rfl⟩ := (rowWhen_next_iff _ _ _).mp h
    obtain ⟨mode, role⟩ := of_paramsSession selected
    obtain ⟨-, e⟩ | ⟨inside, e⟩ := paramAddrHi_cases b s <;> rw [e]
    · exact .session mode (.pastEnd b)
    · exact .session mode (.addrHi b _ _ (hi role) inside)
  | len =>
    obtain ⟨selected, rfl⟩ := (rowWhen_next_iff _ _ _).mp h
    obtain ⟨mode, role⟩ := of_paramsSession selected
    unfold paramLen
    dsimp only
    split_ifs
    · refine .fill b _ _ mode (.length b _ _ (len role) fun full => ?_)
      rw [List.length_append, length_readWords, List.length_drop, full]
      exact Nat.add_sub_cancel' (wordCount_le b)
    · exact .session mode (.length b _ _ (len role) id)
  | other =>
    obtain ⟨-, rfl⟩ := (rowWhen_next_iff _ _ _).mp h
    exact .skipped _

/-- A byte written on the data channel (R147). -/
theorem chanWrite_effect {s t : State} {b : Byte} {w : ChanWrite} (h : exec (decodeChanWrite b w) s = .next t) :
    WriteEffect s (decodeChanWrite b w) t := by
  obtain ⟨data, confirm⟩ := phase_of_chanWriteRole (x := s.ses)
  cases w with
  | lo =>
    obtain ⟨selected, rfl⟩ := (rowWhen_next_iff _ _ _).mp h
    obtain ⟨mode, role⟩ := of_channelWrites selected
    exact .session mode (.writeLow b (data (.inl role)))
  | hi =>
    obtain ⟨selected, rfl⟩ := (rowWhen_next_iff _ _ _).mp h
    obtain ⟨mode, role⟩ := of_channelWrites selected
    exact .session mode (.writeHigh b _ _ (data (.inr role)) List.length_set)
  | confirm =>
    obtain ⟨selected, rfl⟩ := (rowWhen_next_iff _ _ _).mp h
    obtain ⟨mode, role⟩ := of_channelWrites selected
    unfold confirmWrite
    split_ifs
    · exact .session mode (.confirmed b (confirm role))
    · exact .session mode (.cancelled b)
  | other =>
    obtain ⟨-, rfl⟩ := (rowWhen_next_iff _ _ _).mp h
    exact .skipped _

/-- A byte written where the region's own row is selected: outside the session, which takes the bytes of the data
window, and in programming mode those of the command and parameter registers. -/
theorem regWrite_effect {s t : State} {b : Byte} {g : Region} (data : g ≠ .data)
    (mode : g = .cmd ∨ g = .cmdp → s.progMode = false) (h : exec (decodeRegWrite b g) s = .next t) :
    WriteEffect s (decodeRegWrite b g) t := by
  cases g with
  | data => exact absurd rfl data
  | app =>
    obtain ⟨-, rfl⟩ := (rowWhen_next_iff _ _ _).mp h
    exact .register rfl _ _
  | cal =>
    obtain ⟨-, rfl⟩ := (rowWhen_next_iff _ _ _).mp h
    exact .register rfl _ _
  | key =>
    obtain ⟨-, rfl⟩ := (rowWhen_next_iff _ _ _).mp h
    exact .register rfl _ _
  | cmd =>
    obtain ⟨-, rfl⟩ := (rowWhen_next_iff _ _ _).mp h
    have runtime := mode (.inl rfl)
    simp only [wrCmd, runtime]
    exact .pending b runtime
  | cmdp =>
    obtain ⟨-, rfl⟩ := (rowWhen_next_iff _ _ _).mp h
    simp only [wrCmdp, mode (.inr rfl)]
    exact .skipped _
  | _ =>
    obtain ⟨-, rfl⟩ := (rowWhen_next_iff _ _ _).mp h
    exact .skipped _

/-- WR with the gate closed, or outside a write transaction, where it does not complete (R96, R76). -/
theorem closed_write_effect {s t : State} {b : Byte} (closed : (!gate s || s.dir != .w) = true)
    (h : execWr b s = .next t) : WriteEffect s (.wr b) t := by
  unfold execWr at h
  split_ifs at h with hdir hgate
  · cases h
    exact .closed b
  all_goals simp_all

/-- The row that the state selects for a written byte does one of the effects. -/
theorem write_effect {s t : State} {b : Byte} {i : Instr} (hd : decode s.cfg (writeSlot s) [b] = .ok i)
    (h : exec i s = .next t) : WriteEffect s i t := by
  unfold writeSlot at hd
  split_ifs at hd with closed pointer hp
  · cases hd
    exact closed_write_effect closed h
  · cases hd
    obtain ⟨-, rfl⟩ := (rowWhen_next_iff _ _ _).mp h
    exact .pointer b
  · cases hg : s.region with
    | cmd =>
      rw [hg] at hd
      cases hd
      exact command_effect h
    | cmdp =>
      rw [hg] at hd
      cases hd
      exact param_effect h
    | data =>
      rw [hg] at hd
      cases hd
      exact chanWrite_effect h
    | _ =>
      rw [hg] at hd
      cases hd
      exact regWrite_effect (by simp) (by simp) h
  · cases hg : s.region with
    | data =>
      rw [hg] at hd
      cases hd
      exact chanWrite_effect h
    | _ =>
      rw [hg] at hd
      cases hd
      exact regWrite_effect (by simp) (fun _ => by simpa using hp) h

/-! ### A requested byte -/

/-- What the row of a requested byte does (R99; R121 to R128). -/
inductive ReadEffect (s : State) : Instr → State → Prop where
  | closed : ReadEffect s .rd (s.signal (.hostRead sentinel))
  | served (i : Instr) (b : Byte) : ReadEffect s i (afterRead s (b, s))
  | session {i : Instr} {x : Session} (b : Byte) (mode : s.progMode = true) (move : SesMove s.cfg s.ses i x) :
      ReadEffect s i (afterRead s (b, s.setSes x))

/-- A byte read on the data channel (R152). -/
theorem chanRead_effect {s t : State} {r : ChanRead} (h : exec (decodeChanRead r) s = .next t) :
    ReadEffect s (decodeChanRead r) t := by
  obtain ⟨data, csum⟩ := phase_of_chanReadRole (x := s.ses)
  cases r with
  | lo =>
    obtain ⟨selected, rfl⟩ := (rowWhen_next_iff _ _ _).mp h
    obtain ⟨mode, role⟩ := of_channelReads selected
    exact .session _ mode (.readLow (data (.inl role)))
  | hi =>
    obtain ⟨selected, rfl⟩ := (rowWhen_next_iff _ _ _).mp h
    obtain ⟨mode, role⟩ := of_channelReads selected
    exact .session _ mode (.readHigh _ (data (.inr role)))
  | csum =>
    obtain ⟨selected, rfl⟩ := (rowWhen_next_iff _ _ _).mp h
    obtain ⟨mode, role⟩ := of_channelReads selected
    unfold serveChecksum
    split_ifs with hw
    · split
      · exact .session _ mode (.served _ (csum role) hw (.inl rfl))
      · exact .session _ mode (.served _ (csum role) hw (.inr rfl))
    · exact .session _ mode .ended
  | other =>
    obtain ⟨-, rfl⟩ := (rowWhen_next_iff _ _ _).mp h
    exact .served _ _

/-- A byte read from a region other than the data window. -/
theorem regRead_effect {s t : State} {g : Region} (data : g ≠ .data) (h : exec (decodeRegRead g) s = .next t) :
    ReadEffect s (decodeRegRead g) t := by
  cases g with
  | data => exact absurd rfl data
  | _ =>
    obtain ⟨-, rfl⟩ := (rowWhen_next_iff _ _ _).mp h
    exact .served _ _

/-- RD with the gate closed, or outside a read transaction, where it does not complete (R96, R76). -/
theorem closed_read_effect {s t : State} (closed : (!gate s || s.dir != .r) = true) (h : execRd s = .next t) :
    ReadEffect s .rd t := by
  unfold execRd at h
  split_ifs at h with hdir hgate
  · cases h
    exact .closed
  · simp_all

/-- The row that the state selects for a requested byte does one of the effects. -/
theorem read_effect {s t : State} {i : Instr} (hd : decode s.cfg (readSlot s) [] = .ok i)
    (h : exec i s = .next t) : ReadEffect s i t := by
  unfold readSlot at hd
  split_ifs at hd with closed
  · cases hd
    exact closed_read_effect closed h
  · cases hg : s.region with
    | data =>
      rw [hg] at hd
      cases hd
      exact chanRead_effect h
    | _ =>
      rw [hg] at hd
      cases hd
      exact regRead_effect (by simp) h

/-! ### A pass -/

/-- What the row of a runtime code does, before the slot is cleared (44_command_dispatcher.md R179 to R187). -/
inductive CodeEffect (s : State) : Instr → State → Prop where
  | programEnable : CodeEffect s .rcmdProgEn (programEnable s)
  | configEnable : CodeEffect s .rcmdCfgEn (s.setCfgMode true)
  | configDisable : CodeEffect s .rcmdCfgDis (s.setCfgMode false)
  | calLoad : CodeEffect s .rcmdCalLoad (calLoad s)
  | calStore : CodeEffect s .rcmdCalStore (calStoreBlock s)
  | calDefault : CodeEffect s .rcmdCalDefault (calDefaults s)
  | encryptionEnable : CodeEffect s .rcmdEncEn (encryptionEnable s)
  | unknown (code : Byte) : CodeEffect s (.rcmdOther code) s

/-- What the row of a pass does (R109): the action of a pending code, and the session part. -/
inductive PassEffect (s : State) : Instr → State → Prop where
  | idle (none : s.pend = none) : PassEffect s .tick (tickSession s)
  | code {i : Instr} {u : State} (b : Byte) (found : s.pend = some b) (action : CodeEffect s i u) :
      PassEffect s i (restOfTick u)

/-- The row of a pending code (R178). -/
theorem code_effect {s t : State} {b : Byte} (found : s.pend = some b)
    (h : exec (decodeRuntimeCommand s.cfg b) s = .next t) : PassEffect s (decodeRuntimeCommand s.cfg b) t := by
  revert h
  unfold decodeRuntimeCommand
  split_ifs <;> intro h <;> obtain ⟨-, rfl⟩ := (rowWhen_next_iff _ _ _).mp h
  · exact .code b found .programEnable
  · exact .code b found .configEnable
  · exact .code b found .configDisable
  · exact .code b found .calLoad
  · exact .code b found .calStore
  · exact .code b found .calDefault
  · exact .code b found .encryptionEnable
  · exact .code b found (.unknown b)

/-- The row that the state selects for a pass does one of the effects. -/
theorem pass_effect {s t : State} {i : Instr} (hd : decode s.cfg (tickInput s).1 (tickInput s).2 = .ok i)
    (h : exec i s = .next t) : PassEffect s i t := by
  unfold tickInput at hd
  cases hp : s.pend with
  | none =>
    simp only [hp] at hd
    cases hd
    have ht : execTick s = .next t := h
    simp only [execTick, tickDispatch, hp] at ht
    cases ht
    exact .idle hp
  | some b =>
    simp only [hp] at hd
    cases hd
    exact code_effect hp h

/-! ### A step -/

/-- What a step that completes does, by the input it takes: the row it runs and that row's effect. -/
inductive StepEffect (s : State) : State → Prop where
  | undelivered (inbox : List Event) (bus : Traffic) (row : stepRow s = none) :
      StepEffect s { s with inbox := inbox, bus := bus }
  | cutRead {rest : List Event} (input : s.inbox = .read :: rest) (row : stepRow s = none) :
      StepEffect s ({ s with inbox := rest }.signal (.hostRead sentinel))
  | address {i : Instr} (rest : List Event) (a : BusAddr) (x : Dir) (e : Bool) (row : stepRow s = some i)
      (kind : isTransactionRow i = true) (dir : x = .w ∧ e = true ∨ x = .r ∧ e = false) :
      StepEffect s ({ s with inbox := rest, bus := .ours }.setTransaction (identify s.cfg a) x e)
  | write {i : Instr} {t : State} {rest : List Event} {b : Byte} (input : s.inbox = .write b :: rest)
      (row : stepRow s = some i) (effect : WriteEffect { s with inbox := rest } i t) : StepEffect s t
  | read {i : Instr} {t : State} {rest : List Event} (input : s.inbox = .read :: rest)
      (row : stepRow s = some i) (effect : ReadEffect { s with inbox := rest } i t) : StepEffect s t
  | stop (rest : List Event) (row : stepRow s = some .stop) :
      StepEffect s (({ s with inbox := rest, bus := .ours }.setTransaction .none .none false).setOvf false)
  | ovf (rest : List Event) (row : stepRow s = some .ovf) : StepEffect s ({ s with inbox := rest }.setOvf true)
  | appwr {i : Instr} (rest : List Event) (j : Nat) (b : Byte) (row : stepRow s = some i)
      (kind : isRegisterFileRow i = true) : StepEffect s ({ s with inbox := rest }.rfWrite j b)
  | pass {i : Instr} {t : State} (rest : List Event) (row : stepRow s = some i)
      (effect : PassEffect { s with inbox := rest } i t) : StepEffect s t
  | reset {rest : List Event} (input : s.inbox = .reset :: rest) (row : stepRow s = some .reset) :
      StepEffect s (resetBlock { s with inbox := rest })

/-- A step that completes took a byte that is no event, or ran the row of its input. -/
theorem step_next_cases {s t : State} (h : step s = .next t) :
    s.cfg.wf = true ∧ ((fetch s = .other t ∧ stepRow s = none) ∨
      ∃ slot bytes u i, fetch s = .row slot bytes u ∧ decode s.cfg slot bytes = .ok i ∧ stepRow s = some i ∧
        exec i u = .next t) := by
  have hwf : s.cfg.wf = true := by
    by_contra hn
    rw [step_of_not_wf hn] at h
    cases h
  refine ⟨hwf, ?_⟩
  rw [step_of_wf hwf] at h
  cases hf : fetch s with
  | other u =>
    rw [hf] at h
    cases h
    exact .inl ⟨rfl, by simp [stepRow, hf]⟩
  | row slot bytes u =>
    rw [hf] at h
    cases hd : decode s.cfg slot bytes with
    | error e => simp [runFetched, hd] at h
    | ok i =>
      rw [runFetched_row hd] at h
      exact .inr ⟨slot, bytes, u, i, rfl, hd, by simp [stepRow, hf, hd, Except.toOption], h⟩

/-- The effect of taking a row, by the input it stands for. -/
theorem row_effect {s u t : State} {slot : Slot} {bytes : List Byte} {i : Instr} (hf : fetch s = .row slot bytes u)
    (hd : decode s.cfg slot bytes = .ok i) (row : stepRow s = some i) (h : exec i u = .next t) : StepEffect s t := by
  unfold fetch at hf
  cases hin : s.inbox with
  | nil =>
    rw [hin] at hf
    cases hf
    exact .pass s.inbox row (pass_effect hd h)
  | cons e rest =>
    rw [hin] at hf
    cases e with
    | address b =>
      dsimp only at hf
      split_ifs at hf with hm
      cases hf
      simp only [decode, oneByte, decodeAddress, hm, if_true] at hd
      cases hd
      cases hr : readBit b with
      | true =>
        rw [hr] at h row
        obtain ⟨-, rfl⟩ := (rowWhen_next_iff _ _ _).mp h
        exact .address rest _ _ _ row rfl (.inr ⟨rfl, rfl⟩)
      | false =>
        rw [hr] at h row
        obtain ⟨-, rfl⟩ := (rowWhen_next_iff _ _ _).mp h
        exact .address rest _ _ _ row rfl (.inl ⟨rfl, rfl⟩)
    | write b =>
      dsimp only at hf
      split at hf <;> cases hf <;> exact .write hin row (write_effect hd h)
    | read =>
      dsimp only at hf
      split at hf <;> cases hf <;> exact .read hin row (read_effect hd h)
    | stop =>
      cases hf
      cases hd
      cases h
      exact .stop rest row
    | ovf =>
      cases hf
      cases hd
      cases h
      exact .ovf rest row
    | appwr idx b =>
      cases hf
      cases hd
      have ht : execAppwr idx b { s with inbox := rest } = .next t := h
      unfold execAppwr at ht
      split_ifs at ht
      cases ht
      exact .appwr rest _ _ row rfl
    | tick =>
      cases hf
      exact .pass rest row (pass_effect hd h)
    | reset =>
      cases hf
      cases hd
      cases h
      exact .reset hin row

/-- The effect of a byte that is no event: another device's, or the rest of a cut transaction (R110, R214). -/
theorem other_effect {s t : State} (hf : fetch s = .other t) (row : stepRow s = none) : StepEffect s t := by
  unfold fetch at hf
  cases hin : s.inbox with
  | nil =>
    rw [hin] at hf
    cases hf
  | cons e rest =>
    rw [hin] at hf
    cases e with
    | address b =>
      dsimp only at hf
      split_ifs at hf
      cases hf
      exact .undelivered rest .foreign row
    | write b =>
      dsimp only at hf
      split at hf <;> cases hf <;> exact .undelivered rest s.bus row
    | read =>
      dsimp only at hf
      split at hf <;> cases hf
      · exact .undelivered rest s.bus row
      · exact .cutRead hin row
    | _ => cases hf

/-- What a step that completes does. -/
theorem step_effect {s t : State} (h : step s = .next t) : s.cfg.wf = true ∧ StepEffect s t := by
  obtain ⟨hwf, ⟨hf, row⟩ | ⟨slot, bytes, u, i, hf, hd, row, hx⟩⟩ := step_next_cases h
  · exact ⟨hwf, other_effect hf row⟩
  · exact ⟨hwf, row_effect hf hd row hx⟩

end Sys2Proof.Machine
end

section
/-! The session part of a pass, and the session invariants through every step. -/

namespace Sys2Proof.Machine

open Sys2Proof

/-! ### The session part of a pass (43_flash_policy.md R161) -/

/-- A deferred write makes no call, or writes words of one row at or past the boundary (R162 to R165). -/
theorem execWrite_cases (wa : Nat) (buf : List Word) (n : Nat) (s : State) :
    execWrite wa buf n s = s ∨
      ∃ ws, s.cfg.boundary ≤ wa ∧ wa + ws.length ≤ rowStart wa + rowWords ∧
        execWrite wa buf n s = memWrite wa ws s := by
  obtain ⟨-, -, row, -⟩ := clampedLength_le wa n
  unfold execWrite
  split_ifs with guard empty
  · exact .inl rfl
  · exact .inl rfl
  · exact .inr ⟨_, by omega, by rw [List.length_take]; omega, rfl⟩

/-- A deferred erase makes no call, or erases the row of a target at or past the boundary (R163, R164). -/
theorem execErase_cases (wa : Nat) (s : State) :
    execErase wa s = s ∨ s.cfg.boundary ≤ wa ∧ execErase wa s = memErase (rowStart wa) s := by
  unfold execErase
  split_ifs with guard
  · exact .inl rfl
  · exact .inr ⟨by omega, rfl⟩

/-- The session part does nothing, or runs the queued action and ends the session. -/
theorem tickSession_cases (s : State) :
    tickSession s = s ∨
    (s.ses.phase = .writeReady ∧
      tickSession s = (execWrite s.ses.waddr.toNat s.ses.buf s.ses.nwords s).setSes Session.idle) ∨
    (s.ses.phase = .eraseReady ∧ tickSession s = (execErase s.ses.waddr.toNat s).setSes Session.idle) := by
  unfold tickSession
  cases hp : s.ses.phase <;> simp

theorem tickSession_idle {s : State} (h : s.ses = Session.idle) : tickSession s = s := by
  simp [tickSession, h, Session.idle]

/-- The session part writes the session, the flash and the log, nothing else. -/
theorem tickSession_writes (s : State) :
    ∃ x m log, tickSession s = { s with ses := x, flash := m, outLog := log } := by
  obtain h | ⟨-, h⟩ | ⟨-, h⟩ := tickSession_cases s <;> rw [h]
  · exact ⟨_, _, _, rfl⟩
  · obtain e | ⟨ws, -, -, e⟩ := execWrite_cases s.ses.waddr.toNat s.ses.buf s.ses.nwords s <;> rw [e] <;>
      exact ⟨_, _, _, rfl⟩
  · obtain e | ⟨-, e⟩ := execErase_cases s.ses.waddr.toNat s <;> rw [e] <;> exact ⟨_, _, _, rfl⟩

@[simp] theorem tickSession_cfg (s : State) : (tickSession s).cfg = s.cfg := by
  obtain ⟨x, m, log, e⟩ := tickSession_writes s
  rw [e]

theorem tickSession_ses (s : State) : (tickSession s).ses = s.ses ∨ (tickSession s).ses = Session.idle := by
  obtain h | ⟨-, h⟩ | ⟨-, h⟩ := tickSession_cases s <;> simp [h]

/-! ### The session invariants of a state -/

/-- The session invariants of R34, of a state's own session in its own flash. -/
def State.SessionOk (s : State) : Prop := SessionInv s.cfg.flashWords s.ses

theorem sessionOk_write {s t : State} {i : Instr} (e : WriteEffect s i t) (h : s.SessionOk) : t.SessionOk := by
  cases e with
  | session mode move => exact move.keeps_sessionInv h
  | fill p wa n mode move => exact move.keeps_sessionInv h
  | disable mode => exact sessionInv_idle _
  | closed | pointer | skipped | register | pending => exact h

theorem sessionOk_read {s t : State} {i : Instr} (e : ReadEffect s i t) (h : s.SessionOk) : t.SessionOk := by
  cases e with
  | session b mode move => exact move.keeps_sessionInv h
  | closed | served => exact h

theorem sessionOk_code {s u : State} {i : Instr} (e : CodeEffect s i u) (h : s.SessionOk) : u.SessionOk := by
  cases e with
  | programEnable => exact sessionInv_idle _
  | _ => exact h

theorem sessionOk_tickSession {s : State} (h : s.SessionOk) : (tickSession s).SessionOk := by
  unfold State.SessionOk
  rw [tickSession_cfg]
  obtain e | e := tickSession_ses s <;> rw [e]
  · exact h
  · exact sessionInv_idle _

theorem sessionOk_pass {s t : State} {i : Instr} (e : PassEffect s i t) (h : s.SessionOk) : t.SessionOk := by
  cases e with
  | idle none => exact sessionOk_tickSession h
  | @code _ u b found action =>
    have hu : (u.setPend none).SessionOk := sessionOk_code (u := u) action h
    exact sessionOk_tickSession hu

theorem sessionOk_step {s t : State} (e : StepEffect s t) (h : s.SessionOk) : t.SessionOk := by
  cases e with
  | write input row effect => exact sessionOk_write effect h
  | read input row effect => exact sessionOk_read effect h
  | pass rest row effect => exact sessionOk_pass effect h
  | reset input row => exact sessionInv_idle _
  | undelivered | cutRead | address | stop | ovf | appwr => exact h

/-- Settles O50: every effect of a step moves the session by its automaton, ends it, or leaves it. -/
theorem sessionInvariantsArePreserved : Obligations.SessionInvariantsArePreserved :=
  fun _ _ h hs => sessionOk_step (step_effect hs).2 h

end Sys2Proof.Machine
end

section
/-! The invariant of the block: one rule for each piece of the state that a step writes, then every step. -/

namespace Sys2Proof.Machine

open Sys2Proof

/-! ### One rule for each write

The cursor, the overflow flag, the configuration mode, the log, the draws and the input are not in the invariant: a
state that differs only in them keeps it as it stands. -/

theorem State.Inv.setRf {s : State} {bs : List Byte} (h : s.Inv) (length : bs.length = s.rf.length) :
    (s.setRf bs).Inv := by
  obtain ⟨wf, ⟨rf, shape⟩, rest⟩ := h
  exact ⟨wf, ⟨length.trans rf, shape⟩, rest⟩

theorem State.Inv.setCalStore {s : State} {block : List Byte} (h : s.Inv) (length : block.length = s.cfg.calLen) :
    (s.setCalStore block).Inv := by
  obtain ⟨wf, ⟨rf, -, shape⟩, rest⟩ := h
  exact ⟨wf, ⟨rf, length, shape⟩, rest⟩

theorem State.Inv.setXkey {s : State} {key : Option (List Byte)} (h : s.Inv) (length : ∀ k ∈ key, k.length = 16) :
    (s.setXkey key).Inv := by
  obtain ⟨wf, ⟨rf, cal, buf, -⟩, rest⟩ := h
  exact ⟨wf, ⟨rf, cal, buf, length⟩, rest⟩

theorem State.Inv.setFlash {s : State} {m : List FlashCell} (h : s.Inv) (canonical : flashWfFrom s.cfg 0 m = true) :
    (s.setFlash m).Inv := by
  obtain ⟨wf, shape, -, rest⟩ := h
  exact ⟨wf, shape, canonical, rest⟩

theorem State.Inv.setTransaction {s : State} {d : Dev} {x : Dir} {e : Bool} (h : s.Inv)
    (noDevice : x = .none → d = .none) (pointer : e = true → x = .w) (deviceB : d = .b → s.cfg.dual = true) :
    (s.setTransaction d x e).Inv := by
  obtain ⟨wf, shape, flash, -, rest⟩ := h
  exact ⟨wf, shape, flash, ⟨noDevice, pointer, deviceB⟩, rest⟩

/-- In programming mode nothing is pending, so a command is queued in runtime mode only (R174). -/
theorem State.Inv.setPend {s : State} {p : Option Byte} (h : s.Inv) (mode : s.progMode = true → p = none) :
    (s.setPend p).Inv := by
  obtain ⟨wf, shape, flash, bus, ⟨boot, -, idle⟩, ses⟩ := h
  exact ⟨wf, shape, flash, bus, ⟨boot, mode, idle⟩, ses⟩

theorem State.Inv.setSesIdle {s : State} (h : s.Inv) : (s.setSes Session.idle).Inv := by
  obtain ⟨wf, ⟨rf, cal, -, key⟩, flash, bus, ⟨boot, pend, -⟩, -⟩ := h
  exact ⟨wf, ⟨rf, cal, rfl, key⟩, flash, bus, ⟨boot, pend, fun _ => rfl⟩, sessionInv_idle _⟩

/-- The session moves in programming mode only (R210). -/
theorem State.Inv.move {s : State} {i : Instr} {x : Session} (h : s.Inv) (mode : s.progMode = true)
    (move : SesMove s.cfg s.ses i x) : (s.setSes x).Inv := by
  obtain ⟨wf, ⟨rf, cal, buf, key⟩, flash, bus, ⟨boot, pend, -⟩, ses⟩ := h
  have runtime : s.progMode = false → x = Session.idle := fun hm => by simp [hm] at mode
  have full := move.keeps_bufLength buf
  exact ⟨wf, ⟨rf, cal, full, key⟩, flash, bus, ⟨boot, pend, runtime⟩, move.keeps_sessionInv ses⟩

/-- With no session open and nothing pending the mode may change, but for a bootloader build (R27). -/
theorem State.Inv.setProgMode {s : State} {m : Bool} (h : s.Inv) (boot : s.cfg.runtime = false → m = true)
    (pend : s.pend = none) (idle : s.ses = Session.idle) : (s.setProgMode m).Inv := by
  obtain ⟨wf, shape, flash, bus, -, ses⟩ := h
  exact ⟨wf, shape, flash, bus, ⟨boot, fun _ => pend, fun _ => idle⟩, ses⟩

theorem State.Inv.cfg_wf {s : State} (h : s.Inv) : s.cfg.wf = true := h.1

theorem State.Inv.memory_wf {s : State} (h : s.Inv) : Memory.wf s = true := h.2.2.1

theorem State.Inv.pend_none {s : State} (h : s.Inv) (mode : s.progMode = true) : s.pend = none := by
  obtain ⟨-, -, -, -, ⟨-, pend, -⟩, -⟩ := h
  exact pend mode

/-- A pending code means runtime mode, so no session is open. -/
theorem State.Inv.ses_idle_of_pend {s : State} {b : Byte} (h : s.Inv) (found : s.pend = some b) :
    s.ses = Session.idle := by
  obtain ⟨-, -, -, -, ⟨-, pend, idle⟩, -⟩ := h
  cases hm : s.progMode with
  | true => simp [pend hm] at found
  | false => exact idle hm

/-- The target of a queued action lies in the flash (R34 (9)). -/
theorem State.Inv.target_of_queued {s : State} (h : s.Inv)
    (queued : s.ses.phase = .writeReady ∨ s.ses.phase = .eraseReady) :
    s.ses.waddr.toNat < s.cfg.flashWords := by
  obtain ⟨-, -, -, -, -, -, -, -, -, -, -, -, -, target⟩ := h
  rcases queued with p | p <;> exact target (by simp [p])

/-! ### Written and requested bytes -/

theorem State.Inv.memRead {s : State} (h : s.Inv) (wa n : Nat) : (Machine.memRead wa n s).Inv := h

theorem State.Inv.doDisable {s : State} (h : s.Inv) (mode : s.progMode = true) : (Machine.doDisable s).Inv := by
  have hidle : ((s.setSes Session.idle).signal .exitProgramming).Inv := h.setSesIdle
  refine hidle.setProgMode (fun boot => ?_) (h.pend_none mode) rfl
  have boot : s.cfg.runtime = false := boot
  simp [boot, mode]

theorem inv_write {s t : State} {i : Instr} (e : WriteEffect s i t) (h : s.Inv) : t.Inv := by
  cases e with
  | closed d => exact h
  | pointer r =>
    obtain ⟨wf, shape, flash, ⟨noDevice, -, deviceB⟩, rest⟩ := h
    exact ⟨wf, shape, flash, ⟨noDevice, nofun, deviceB⟩, rest⟩
  | skipped => exact h
  | register row j v => exact h.setRf List.length_set
  | pending d mode => exact h.setPend (p := some d) (by simp [mode])
  | session mode move => exact h.move mode move
  | fill p wa n mode move => exact (h.memRead wa n).move mode move
  | disable mode => exact h.doDisable mode

theorem inv_read {s t : State} {i : Instr} (e : ReadEffect s i t) (h : s.Inv) : t.Inv := by
  cases e with
  | closed | served => exact h
  | session b mode move => exact h.move mode move

/-! ### A pass -/

theorem inv_code {s u : State} {i : Instr} (e : CodeEffect s i u) (h : s.Inv) : (u.setPend none).Inv := by
  have cleared : (s.setPend none).Inv := h.setPend fun _ => rfl
  cases e with
  | programEnable => exact cleared.setSesIdle.setProgMode (fun _ => rfl) rfl rfl
  | configEnable | configDisable | unknown => exact cleared
  | calLoad => exact cleared.setRf (length_storeBytes _ _ _)
  | calStore => exact cleared.setCalStore (length_rfBlock _ _ _)
  | calDefault => exact cleared.setRf (length_storeBytes _ _ _)
  | encryptionEnable =>
    refine cleared.setXkey fun k hk => ?_
    simp only [encryptionEnable, State.setXkey_xkey, Option.mem_def, Option.ite_none_right_eq_some,
      Option.some.injEq] at hk
    obtain ⟨-, rfl⟩ := hk
    exact length_rfBlock _ _ _

/-- A flash call of a queued action lies between the boundary and the end of the flash (R166). -/
theorem inv_tickSession {s : State} (h : s.Inv) : (tickSession s).Inv := by
  have bounds := Config.bounds h.cfg_wf
  have fits (queued : s.ses.phase = .writeReady ∨ s.ses.phase = .eraseReady)
      (guard : s.cfg.boundary ≤ s.ses.waddr.toNat) : rowStart s.ses.waddr.toNat + rowWords ≤ s.cfg.flashWords := by
    obtain ⟨-, -, -, -, last⟩ :=
      rowStart_bounds bounds.boundaryRow bounds.flashRow guard (h.target_of_queued queued)
    exact last
  obtain e | ⟨phase, e⟩ | ⟨phase, e⟩ := tickSession_cases s <;> rw [e]
  · exact h
  · obtain e | ⟨ws, guard, row, e⟩ := execWrite_cases s.ses.waddr.toNat s.ses.buf s.ses.nwords s <;> rw [e]
    · exact h.setSesIdle
    · exact (h.setFlash (memWrite_wf (row.trans (fits (.inl phase) guard)) h.memory_wf)).setSesIdle
  · obtain e | ⟨guard, e⟩ := execErase_cases s.ses.waddr.toNat s <;> rw [e]
    · exact h.setSesIdle
    · exact (h.setFlash (memErase_wf (fits (.inr phase) guard) h.memory_wf)).setSesIdle

theorem inv_pass {s t : State} {i : Instr} (e : PassEffect s i t) (h : s.Inv) : t.Inv := by
  cases e with
  | idle none => exact inv_tickSession h
  | code b found action => exact inv_tickSession (inv_code action h)

/-! ### Every step -/

/-- Only a dual build knows a device B (R95). -/
theorem dual_of_identify_b {c : Config} {a : BusAddr} (h : identify c a = .b) : c.dual = true := by
  cases hd : c.dual with
  | true => rfl
  | false => simp [identify, hd] at h

theorem inv_resetBlock {s : State} (h : s.Inv) : (resetBlock s).Inv := by
  obtain ⟨wf, ⟨-, cal, -, -⟩, flash, -⟩ := h
  refine ⟨wf, ⟨length_freeBytes _ _, cal, rfl, nofun⟩, flash, ⟨fun _ => rfl, nofun, nofun⟩,
    ⟨fun boot => ?_, fun _ => rfl, fun _ => rfl⟩, sessionInv_idle _⟩
  simpa [resetBlock] using boot

theorem inv_step {s t : State} (e : StepEffect s t) (h : s.Inv) : t.Inv := by
  cases e with
  | undelivered inbox bus row => exact h
  | cutRead input row => exact h
  | address rest a x e row kind dir =>
    have hs : State.Inv { s with inbox := rest, bus := .ours } := h
    refine hs.setTransaction (fun hx => ?_) (fun he => ?_) dual_of_identify_b
    · obtain ⟨rfl, -⟩ | ⟨rfl, -⟩ := dir <;> cases hx
    · obtain ⟨rfl, -⟩ | ⟨-, rfl⟩ := dir
      · rfl
      · cases he
  | write input row effect => exact inv_write effect h
  | read input row effect => exact inv_read effect h
  | stop rest row => exact h.setTransaction (d := .none) (x := .none) (e := false) (fun _ => rfl) nofun nofun
  | ovf rest row => exact h
  | appwr rest j b row kind => exact h.setRf List.length_set
  | pass rest row effect => exact inv_pass effect h
  | reset input row => exact inv_resetBlock h

/-- Settles O49: each effect of a step writes pieces of the state within the rules of the invariant. -/
theorem everyStepKeepsTheInvariant : Obligations.EveryStepKeepsTheInvariant :=
  fun _ _ h hs => inv_step (step_effect hs).2 h

end Sys2Proof.Machine
end

section
/-! The writers of each piece of the state (10_state.md R19, R22 to R30, R45, R46; 42_programming_session.md R159). -/

namespace Sys2Proof.Machine

open Sys2Proof

/-- A step from `s` to `t` writes each piece of the state only by a row, or for an input, that the rules name: what
O56 says of one step. -/
def WrittenByItsRows (s t : State) : Prop :=
  t.cfg = s.cfg ∧
  (t.rf ≠ s.rf → ∃ i, stepRow s = some i ∧ isRegisterFileRow i = true) ∧
  (t.pend ≠ s.pend → ∃ i, stepRow s = some i ∧ isPendingRow i = true) ∧
  (t.ses ≠ s.ses → ∃ i, stepRow s = some i ∧ isSessionRow i = true) ∧
  (t.dev ≠ s.dev ∨ t.dir ≠ s.dir → ∃ i, stepRow s = some i ∧ isTransactionRow i = true) ∧
  (t.expectPtr ≠ s.expectPtr → ∃ i, stepRow s = some i ∧ (isTransactionRow i = true ∨ ∃ r, i = .ptr r)) ∧
  (t.flash ≠ s.flash → stepRow s = some .tick) ∧
  (t.calStore ≠ s.calStore → stepRow s = some .rcmdCalStore) ∧
  (t.progMode ≠ s.progMode →
    stepRow s = some .rcmdProgEn ∨ stepRow s = some .pcmdDisable ∨ stepRow s = some .reset) ∧
  (t.cfgMode ≠ s.cfgMode →
    stepRow s = some .rcmdCfgEn ∨ stepRow s = some .rcmdCfgDis ∨ stepRow s = some .reset) ∧
  (t.xkey ≠ s.xkey → stepRow s = some .rcmdEncEn ∨ stepRow s = some .reset) ∧
  (s.ovf = false → t.ovf = true → stepRow s = some .ovf) ∧
  (s.ovf = true → t.ovf = false → stepRow s = some .stop ∨ stepRow s = some .reset) ∧
  (t.ptr ≠ s.ptr →
    ∃ rest, s.inbox = .read :: rest ∨ s.inbox = .reset :: rest ∨ ∃ b, s.inbox = .write b :: rest) ∧
  (t.outLog ≠ s.outLog →
    (∃ rest, s.inbox = .read :: rest) ∨ ∃ i, stepRow s = some i ∧ isRecordRow i = true) ∧
  (t.draws ≠ s.draws → (∃ p, stepRow s = some (.paramLen p)) ∨ stepRow s = some .reset)

/-! ### Written and requested bytes -/

theorem writtenByItsRows_write {s t : State} {i : Instr} {b : Byte} {rest : List Event}
    (input : s.inbox = .write b :: rest) (row : stepRow s = some i) (e : WriteEffect { s with inbox := rest } i t) :
    WrittenByItsRows s t := by
  unfold WrittenByItsRows
  cases e with
  | closed d => simp +contextual
  | pointer r => simp +contextual [loadPointer, row, input]
  | skipped => simp +contextual [afterWrite, input]
  | register kind j v => simp +contextual [afterWrite, input, row, kind]
  | pending d mode =>
    have kind : isPendingRow (.wrCmd d) = true := rfl
    simp +contextual [afterWrite, input, row, kind]
  | session mode move => simp +contextual [afterWrite, input, row, move.row_isSessionRow]
  | fill p wa n mode move =>
    have record : isRecordRow (.paramLen p) = true := rfl
    simp +contextual [afterWrite, input, row, move.row_isSessionRow, memRead, record]
  | disable mode =>
    have kind : isSessionRow .pcmdDisable = true := rfl
    have record : isRecordRow .pcmdDisable = true := rfl
    simp +contextual [afterWrite, input, row, doDisable, kind, record]

theorem writtenByItsRows_read {s t : State} {i : Instr} {rest : List Event} (input : s.inbox = .read :: rest)
    (row : stepRow s = some i) (e : ReadEffect { s with inbox := rest } i t) : WrittenByItsRows s t := by
  unfold WrittenByItsRows
  cases e with
  | closed => simp +contextual [input]
  | served => simp +contextual [afterRead, input]
  | session b mode move => simp +contextual [afterRead, input, row, move.row_isSessionRow]

/-! ### A pass -/

/-- In a state of the invariant the session part has nothing to do after a pending code (R174, R210). -/
theorem restOfTick_code {s u : State} {i : Instr} {b : Byte} (e : CodeEffect s i u) (h : s.Inv)
    (found : s.pend = some b) : restOfTick u = u.setPend none := by
  refine tickSession_idle ?_
  cases e with
  | programEnable => rfl
  | _ => exact h.ses_idle_of_pend found

theorem writtenByItsRows_code {s u : State} {i : Instr} {rest : List Event} (row : stepRow s = some i)
    (e : CodeEffect { s with inbox := rest } i u) : WrittenByItsRows s (u.setPend none) := by
  have pending : isPendingRow i = true := by cases e <;> rfl
  unfold WrittenByItsRows
  cases e with
  | programEnable =>
    have kind : isSessionRow .rcmdProgEn = true := rfl
    simp +contextual [programEnable, row, pending, kind]
  | configEnable | configDisable | unknown => simp +contextual [row, pending]
  | calLoad =>
    have kind : isRegisterFileRow .rcmdCalLoad = true := rfl
    have record : isRecordRow .rcmdCalLoad = true := rfl
    simp +contextual [calLoad, row, pending, kind, record]
  | calStore =>
    have record : isRecordRow .rcmdCalStore = true := rfl
    simp +contextual [calStoreBlock, persist, row, pending, record]
  | calDefault =>
    have kind : isRegisterFileRow .rcmdCalDefault = true := rfl
    simp +contextual [calDefaults, row, pending, kind]
  | encryptionEnable =>
    have record : isRecordRow .rcmdEncEn = true := rfl
    simp +contextual [encryptionEnable, row, pending, record]

theorem writtenByItsRows_pass {s t : State} {i : Instr} {rest : List Event} (h : s.Inv) (row : stepRow s = some i)
    (e : PassEffect { s with inbox := rest } i t) : WrittenByItsRows s t := by
  cases e with
  | idle none =>
    obtain ⟨x, m, log, e⟩ := tickSession_writes { s with inbox := rest }
    have kind : isSessionRow .tick = true := rfl
    have record : isRecordRow .tick = true := rfl
    rw [e]
    simp +contextual [WrittenByItsRows, row, kind, record]
  | code b found action =>
    have hi : State.Inv { s with inbox := rest } := h
    rw [restOfTick_code action hi found]
    exact writtenByItsRows_code row action

/-! ### Every step -/

theorem writtenByItsRows_reset {s : State} {rest : List Event} (input : s.inbox = .reset :: rest)
    (row : stepRow s = some .reset) : WrittenByItsRows s (resetBlock { s with inbox := rest }) := by
  have register : isRegisterFileRow .reset = true := rfl
  have pending : isPendingRow .reset = true := rfl
  have session : isSessionRow .reset = true := rfl
  have transaction : isTransactionRow .reset = true := rfl
  have record : isRecordRow .reset = true := rfl
  simp [WrittenByItsRows, resetBlock, row, input, register, pending, session, transaction, record]

theorem writtenByItsRows_step {s t : State} (e : StepEffect s t) (h : s.Inv) : WrittenByItsRows s t := by
  cases e with
  | undelivered inbox bus row => simp +contextual [WrittenByItsRows]
  | cutRead input row => simp +contextual [WrittenByItsRows, input]
  | address rest a x e row kind dir => simp +contextual [WrittenByItsRows, row, kind]
  | write input row effect => exact writtenByItsRows_write input row effect
  | read input row effect => exact writtenByItsRows_read input row effect
  | stop rest row =>
    have kind : isTransactionRow .stop = true := rfl
    simp +contextual [WrittenByItsRows, row, kind]
  | ovf rest row => simp +contextual [WrittenByItsRows, row]
  | appwr rest j b row kind => simp +contextual [WrittenByItsRows, row, kind]
  | pass rest row effect => exact writtenByItsRows_pass h row effect
  | reset input row => exact writtenByItsRows_reset input row

/-- Settles O56: each effect of a step writes the pieces that its row, or its input, may write. -/
theorem eachStatePieceHasItsWriters : Obligations.EachStatePieceHasItsWriters :=
  fun _ _ h hs => writtenByItsRows_step (step_effect hs).2 h

end Sys2Proof.Machine
end

section
/-! The region decode is the register map (10_state.md R36 to R38). -/

namespace Sys2Proof.Machine

open Sys2Proof

/-- The register map of R36 and R37: the addresses of a region in each mode; INVALID is where there is no other. -/
def RegisterMap (c : Config) (pm : Bool) (r : Nat) : Region → Prop
  | .cmd => r = c.cmdReg
  | .cmdp => c.cmdReg + 1 ≤ r ∧ r ≤ c.cmdReg + 3
  | .custom => r = c.customReg
  | .id => c.idBase ≤ r ∧ r ≤ c.idBase + 5
  | .data => pm = true ∧ c.dataBase ≤ r ∧ r < c.dataBase + c.dataLen
  | .app => pm = false ∧ c.appBase ≤ r ∧ r < c.appBase + c.appLen
  | .cal => pm = false ∧ c.calBase ≤ r ∧ r < c.calBase + c.calLen
  | .key => pm = false ∧ c.keyBase ≤ r ∧ r < c.keyBase + 16
  | .invalid => False

/-- The decode answers a region that holds the address, or INVALID where none does; no check is needed for it. -/
theorem regionOf_cases (c : Config) (pm : Bool) (r : Byte) :
    RegisterMap c pm r.toNat (regionOf c pm r) ∨
      regionOf c pm r = .invalid ∧ ∀ g, ¬ RegisterMap c pm r.toNat g := by
  unfold regionOf
  simp only [inRange, Bool.and_eq_true, Bool.not_eq_true', decide_eq_true_eq]
  split_ifs with h1 h2 h3 h4 h5 h6 h7 h8
  · exact .inl h1
  · exact .inl (by unfold RegisterMap; omega)
  · exact .inl h3
  · exact .inl (by unfold RegisterMap; omega)
  · exact .inl h5
  · exact .inl h6
  · exact .inl h7
  · exact .inl h8
  · refine .inr ⟨rfl, fun g hg => ?_⟩
    cases g with
    | cmd => exact h1 hg
    | cmdp => exact h2 (by unfold RegisterMap at hg; omega)
    | custom => exact h3 hg
    | id => exact h4 (by unfold RegisterMap at hg; omega)
    | data => exact h5 hg
    | app => exact h6 hg
    | cal => exact h7 hg
    | key => exact h8 hg
    | invalid => exact hg

/-- The range of R12 that a region lies in: the command and parameter registers share one. -/
def blockOf : Region → Region
  | .cmdp => .cmd
  | g => g

/-- First address and length of the range of a region's block. -/
def blockRange (c : Config) : Region → Nat × Nat
  | .app => (c.appBase, c.appLen)
  | .cal => (c.calBase, c.calLen)
  | .key => (c.keyBase, 16)
  | .cmd | .cmdp => (c.cmdReg, 4)
  | .custom => (c.customReg, 1)
  | .id => (c.idBase, 6)
  | .data => (c.dataBase, c.dataLen)
  | .invalid => (0, 0)

/-- The address lies in the range of the region's block. -/
def InBlock (c : Config) (r : Nat) (g : Region) : Prop :=
  (blockRange c g).1 ≤ r ∧ r < (blockRange c g).1 + (blockRange c g).2

/-- The blocks of a mode, in the order of R12 checks (3) and (4). -/
def modeBlocks (pm : Bool) : List Region :=
  if pm then [.data, .cmd, .custom, .id] else [.app, .cal, .key, .cmd, .custom, .id]

theorem blockRanges_apart {c : Config} (h : c.wf = true) (pm : Bool) :
    RangesApart ((modeBlocks pm).map (blockRange c)) := by
  obtain ⟨-, -, runtime, prog, -⟩ := (wf_iff_passesChecks c).mp h
  cases pm with
  | true => exact prog
  | false => exact runtime

/-- Two blocks of a mode that hold one address are the same block. -/
theorem block_unique {c : Config} (h : c.wf = true) {pm : Bool} {r : Nat} {g g' : Region} (mem : g ∈ modeBlocks pm)
    (mem' : g' ∈ modeBlocks pm) (hr : InBlock c r g) (hr' : InBlock c r g') : g = g' := by
  have apart : (modeBlocks pm).Pairwise fun g g' => ¬ (InBlock c r g ∧ InBlock c r g') :=
    (List.pairwise_map.mp (blockRanges_apart h pm).2).imp fun no both =>
      no r ⟨both.1.1, both.1.2, both.2.1, both.2.2⟩
  have symm : Std.Symm fun g g' => ¬ (InBlock c r g ∧ InBlock c r g') := ⟨fun _ _ no both => no both.symm⟩
  by_contra ne
  exact apart.forall mem mem' ne ⟨hr, hr'⟩

/-- A mapped address lies in the range of its region's block. -/
theorem blockOf_of_registerMap {c : Config} {pm : Bool} {r : Nat} {g : Region} (h : RegisterMap c pm r g) :
    blockOf g ∈ modeBlocks pm ∧ InBlock c r (blockOf g) := by
  cases g with
  | invalid => exact h.elim
  | data | app | cal | key =>
    obtain ⟨rfl, range⟩ := h
    exact ⟨by simp [modeBlocks, blockOf], range⟩
  | cmd | cmdp | custom | id =>
    refine ⟨by cases pm <;> simp [modeBlocks, blockOf], ?_⟩
    simp only [RegisterMap] at h
    simp only [blockOf, InBlock, blockRange]
    omega

theorem eq_or_commands_of_blockOf_eq {g g' : Region} (h : blockOf g = blockOf g') :
    g = g' ∨ g = .cmd ∧ g' = .cmdp ∨ g = .cmdp ∧ g' = .cmd := by
  unfold blockOf at h
  split at h <;> split at h
  · exact .inl rfl
  · exact .inr (.inr ⟨rfl, h.symm⟩)
  · exact .inr (.inl ⟨h, rfl⟩)
  · exact .inl h

/-- In a well-formed configuration no address lies in two regions of a mode (R12 checks (3) and (4)). -/
theorem registerMap_unique {c : Config} (h : c.wf = true) {pm : Bool} {r : Nat} {g g' : Region}
    (hg : RegisterMap c pm r g) (hg' : RegisterMap c pm r g') : g = g' := by
  obtain ⟨mem, hr⟩ := blockOf_of_registerMap hg
  obtain ⟨mem', hr'⟩ := blockOf_of_registerMap hg'
  have same : blockOf g = blockOf g' := block_unique h mem mem' hr hr'
  obtain rfl | ⟨rfl, rfl⟩ | ⟨rfl, rfl⟩ := eq_or_commands_of_blockOf_eq same
  · rfl
  · simp only [RegisterMap] at hg hg'
    omega
  · simp only [RegisterMap] at hg hg'
    omega

/-- The decode is the register map: a region other than INVALID holds exactly its addresses. -/
theorem regionOf_eq_iff {c : Config} (h : c.wf = true) (pm : Bool) (r : Byte) {g : Region} (hg : g ≠ .invalid) :
    regionOf c pm r = g ↔ RegisterMap c pm r.toNat g := by
  obtain found | ⟨invalid, none⟩ := regionOf_cases c pm r
  · exact ⟨fun e => e ▸ found, fun m => registerMap_unique h found m⟩
  · exact ⟨fun e => absurd (e.symm.trans invalid) hg, fun m => absurd m (none g)⟩

/-- Settles O14: the decode answers a region that holds the address, and no two regions hold one. -/
theorem regionDecodeIsTheRegisterMap : Obligations.RegionDecodeIsTheRegisterMap := by
  intro c r h pm
  have map {g : Region} (hg : g ≠ .invalid) := regionOf_eq_iff h pm r hg
  exact ⟨map nofun, map nofun, map nofun, map nofun, map nofun, map nofun, map nofun, map nofun⟩

end Sys2Proof.Machine
end

section
/-! The decoder, said once: when a slot's bytes are one row, which row a command code selects, and which slot and bytes
a decoded row is written as (30_encoding.md R71 to R73, R88, R89). -/

namespace Sys2Proof

/-! ### The bytes of a slot -/

/-- A slot that carries a byte takes exactly one. -/
theorem oneByte_eq_ok_iff {bytes : List Byte} {f : Byte → Except DecodeError Instr} {i : Instr} :
    oneByte bytes f = .ok i ↔ ∃ b, bytes = [b] ∧ f b = .ok i := by
  match bytes with
  | [] => simp [oneByte]
  | [b] => simp [oneByte]
  | _ :: _ :: _ => simp [oneByte]

/-- A slot that carries no byte takes none. -/
theorem noByte_eq_ok_iff {bytes : List Byte} {i j : Instr} : noByte bytes j = .ok i ↔ bytes = [] ∧ j = i := by
  cases bytes <;> simp [noByte]

/-! ### Reading back what was written -/

theorem decodeAddress_addressByte {c : Config} {a : BusAddr} (reaches : c.matchesAddr a = true) (rw : Bool) :
    decodeAddress c (addressByte a rw) = .ok (if rw then .addrR a else .addrW a) := by
  simp only [decodeAddress, addressField_addressByte, readBit_addressByte, reaches, if_true]

/-- Pairwise distinct programming codes each select their own row (R88). -/
theorem decodeProgCommand_codes {c : Config} (distinct : c.progCodes.Nodup) :
    decodeProgCommand c c.cErase = .pcmdErase ∧ decodeProgCommand c c.cWrite = .pcmdWrite ∧
      decodeProgCommand c c.cRead = .pcmdRead ∧ decodeProgCommand c c.cDisable = .pcmdDisable := by
  simp_all [Config.progCodes, decodeProgCommand, eq_comm]

theorem decodeProgCommand_other {c : Config} {b : Byte} (unknown : b ∉ c.progCodes) :
    decodeProgCommand c b = .pcmdOther b := by
  simp_all [Config.progCodes, decodeProgCommand]

/-- Pairwise distinct runtime codes each select their own row (R89). -/
theorem decodeRuntimeCommand_codes {c : Config} (distinct : c.runtimeCodes.Nodup) :
    decodeRuntimeCommand c c.cProgEn = .rcmdProgEn ∧ decodeRuntimeCommand c c.cCfgEn = .rcmdCfgEn ∧
      decodeRuntimeCommand c c.cCfgDis = .rcmdCfgDis ∧ decodeRuntimeCommand c c.cCalLoad = .rcmdCalLoad ∧
      decodeRuntimeCommand c c.cCalStore = .rcmdCalStore ∧
      decodeRuntimeCommand c c.cCalDefault = .rcmdCalDefault ∧ decodeRuntimeCommand c c.cEncEn = .rcmdEncEn := by
  simp_all [Config.runtimeCodes, decodeRuntimeCommand, eq_comm]

theorem decodeRuntimeCommand_other {c : Config} {b : Byte} (unknown : b ∉ c.runtimeCodes) :
    decodeRuntimeCommand c b = .rcmdOther b := by
  simp_all [Config.runtimeCodes, decodeRuntimeCommand]

/-! ### Writing back what was read -/

/-- The instruction is well-formed, and this slot and these bytes are its encoding. -/
def Instr.IsWritten (c : Config) (i : Instr) (slot : Slot) (bytes : List Byte) : Prop :=
  encode c i = (slot, bytes) ∧ i.wf c = true

/-- An ADDRESS byte that decodes reaches the block; its read bit picks the row (R72, R77). -/
theorem isWritten_of_decodeAddress {c : Config} {b : Byte} {i : Instr} (h : decodeAddress c b = .ok i) :
    i.IsWritten c .address [b] := by
  unfold decodeAddress at h
  split_ifs at h with reaches bit
  · cases h
    exact ⟨by rw [encode, ← bit, addressByte_fields], reaches⟩
  · cases h
    exact ⟨by rw [encode, ← Bool.eq_false_of_not_eq_true bit, addressByte_fields], reaches⟩

theorem isWritten_decodeProgCommand (c : Config) (b : Byte) : (decodeProgCommand c b).IsWritten c .progCommand [b] := by
  by_cases known : b ∈ c.progCodes
  · unfold decodeProgCommand
    split_ifs with erase write read disable
    · exact ⟨by rw [erase]; rfl, rfl⟩
    · exact ⟨by rw [write]; rfl, rfl⟩
    · exact ⟨by rw [read]; rfl, rfl⟩
    · exact ⟨by rw [disable]; rfl, rfl⟩
    · simp [Config.progCodes, erase, write, read, disable] at known
  · rw [decodeProgCommand_other known]
    exact ⟨rfl, by simpa [Instr.wf] using known⟩

theorem isWritten_decodeRuntimeCommand (c : Config) (b : Byte) :
    (decodeRuntimeCommand c b).IsWritten c .pending [b] := by
  by_cases known : b ∈ c.runtimeCodes
  · unfold decodeRuntimeCommand
    split_ifs with progEn cfgEn cfgDis load store default encEn
    · exact ⟨by rw [progEn]; rfl, rfl⟩
    · exact ⟨by rw [cfgEn]; rfl, rfl⟩
    · exact ⟨by rw [cfgDis]; rfl, rfl⟩
    · exact ⟨by rw [load]; rfl, rfl⟩
    · exact ⟨by rw [store]; rfl, rfl⟩
    · exact ⟨by rw [default]; rfl, rfl⟩
    · exact ⟨by rw [encEn]; rfl, rfl⟩
    · simp [Config.runtimeCodes, progEn, cfgEn, cfgDis, load, store, default, encEn] at known
  · rw [decodeRuntimeCommand_other known]
    exact ⟨rfl, by simpa [Instr.wf] using known⟩

theorem isWritten_decodeRegWrite (c : Config) (b : Byte) (g : Region) :
    (decodeRegWrite b g).IsWritten c (.regWrite g) [b] := by
  cases g <;> exact ⟨rfl, rfl⟩

theorem isWritten_decodeRegRead (c : Config) (g : Region) : (decodeRegRead g).IsWritten c (.regRead g) [] := by
  cases g <;> exact ⟨rfl, rfl⟩

theorem isWritten_decodeParam (c : Config) (b : Byte) (p : ParamRole) :
    (decodeParam b p).IsWritten c (.param p) [b] := by
  cases p <;> exact ⟨rfl, rfl⟩

theorem isWritten_decodeChanWrite (c : Config) (b : Byte) (w : ChanWrite) :
    (decodeChanWrite b w).IsWritten c (.chanWrite w) [b] := by
  cases w <;> exact ⟨rfl, rfl⟩

theorem isWritten_decodeChanRead (c : Config) (r : ChanRead) : (decodeChanRead r).IsWritten c (.chanRead r) [] := by
  cases r <;> exact ⟨rfl, rfl⟩

theorem isWritten_of_oneByte {c : Config} {slot : Slot} {bytes : List Byte} {i : Instr} {row : Byte → Instr}
    (written : ∀ b, (row b).IsWritten c slot [b]) (h : oneByte bytes (fun b => .ok (row b)) = .ok i) :
    i.IsWritten c slot bytes := by
  obtain ⟨b, rfl, ⟨⟩⟩ := oneByte_eq_ok_iff.mp h
  exact written b

theorem isWritten_of_noByte {c : Config} {slot : Slot} {bytes : List Byte} {i row : Instr}
    (written : row.IsWritten c slot []) (h : noByte bytes row = .ok i) : i.IsWritten c slot bytes := by
  obtain ⟨rfl, rfl⟩ := noByte_eq_ok_iff.mp h
  exact written

/-- Bytes that decode are the encoding of their row; only the index of an APPWR has a check of its own (R108). -/
theorem isWritten_of_decode {c : Config} {slot : Slot} {bytes : List Byte} {i : Instr}
    (noIndex : ∀ idx, slot ≠ .appwr idx) (h : decode c slot bytes = .ok i) : i.IsWritten c slot bytes := by
  cases slot with
  | address =>
    obtain ⟨b, rfl, hb⟩ := oneByte_eq_ok_iff.mp h
    exact isWritten_of_decodeAddress hb
  | appwr idx => exact absurd rfl (noIndex idx)
  | pointer | write => exact isWritten_of_oneByte (fun _ => ⟨rfl, rfl⟩) h
  | read | stop | ovf | tick | reset => exact isWritten_of_noByte ⟨rfl, rfl⟩ h
  | regWrite g => exact isWritten_of_oneByte (isWritten_decodeRegWrite c · g) h
  | regRead g => exact isWritten_of_noByte (isWritten_decodeRegRead c g) h
  | progCommand => exact isWritten_of_oneByte (isWritten_decodeProgCommand c) h
  | param p => exact isWritten_of_oneByte (isWritten_decodeParam c · p) h
  | chanWrite w => exact isWritten_of_oneByte (isWritten_decodeChanWrite c · w) h
  | chanRead r => exact isWritten_of_noByte (isWritten_decodeChanRead c r) h
  | pending => exact isWritten_of_oneByte (isWritten_decodeRuntimeCommand c) h

theorem encode_of_decode_appwr {c : Config} {idx : BitVec 9} {bytes : List Byte} {i : Instr}
    (h : decode c (.appwr idx) bytes = .ok i) : encode c i = (.appwr idx, bytes) := by
  obtain ⟨b, rfl, ⟨⟩⟩ := oneByte_eq_ok_iff.mp h
  rfl

end Sys2Proof
end

section
/-! The statements on the encoding, and the direction of a data event (30_encoding.md R76). -/

namespace Sys2Proof.Machine

open Sys2Proof

/-- Settles O1: most rows have a slot of their own; the rows that share ADDRESS, CMD_BYTE or the pending code are told
apart by the read bit and by the checks that keep the codes distinct (R12 checks (1) and (2)). -/
theorem decodeOfEncodeIsTheInstruction : Obligations.DecodeOfEncodeIsTheInstruction := by
  intro c i hc hi
  obtain ⟨prog, run, -⟩ := (wf_iff_passesChecks c).mp hc
  obtain ⟨erase, write, read, disable⟩ := decodeProgCommand_codes prog
  obtain ⟨progEn, cfgEn, cfgDis, load, store, default, encEn⟩ := decodeRuntimeCommand_codes run
  cases i with
  | addrW a => exact decodeAddress_addressByte hi false
  | addrR a => exact decodeAddress_addressByte hi true
  | pcmdErase => exact congrArg Except.ok erase
  | pcmdWrite => exact congrArg Except.ok write
  | pcmdRead => exact congrArg Except.ok read
  | pcmdDisable => exact congrArg Except.ok disable
  | pcmdOther code =>
    have unknown : code ∉ c.progCodes := by simpa [Instr.wf] using hi
    exact congrArg Except.ok (decodeProgCommand_other unknown)
  | rcmdProgEn => exact congrArg Except.ok progEn
  | rcmdCfgEn => exact congrArg Except.ok cfgEn
  | rcmdCfgDis => exact congrArg Except.ok cfgDis
  | rcmdCalLoad => exact congrArg Except.ok load
  | rcmdCalStore => exact congrArg Except.ok store
  | rcmdCalDefault => exact congrArg Except.ok default
  | rcmdEncEn => exact congrArg Except.ok encEn
  | rcmdOther code =>
    have unknown : code ∉ c.runtimeCodes := by simpa [Instr.wf] using hi
    exact congrArg Except.ok (decodeRuntimeCommand_other unknown)
  | _ => rfl

/-- Settles O2: bytes that decode are written back as they were; APPWR is the one slot without the second half. -/
theorem encodeOfDecodedIsTheBytes : Obligations.EncodeOfDecodedIsTheBytes := by
  intro c slot bytes i h
  by_cases index : ∃ idx, slot = .appwr idx
  · obtain ⟨idx, rfl⟩ := index
    exact ⟨encode_of_decode_appwr h, fun noIndex => absurd rfl (noIndex idx)⟩
  · obtain ⟨written, wf⟩ := isWritten_of_decode (not_exists.mp index) h
    exact ⟨written, fun _ => wf⟩

/-- Settles O3: each byte evaluates to its row under the reference codes. -/
theorem sampleBytesDecode : Obligations.SampleBytesDecode := by
  unfold Obligations.SampleBytesDecode
  decide

/-- A write against the direction has no move; nothing else is asked first (R76). -/
theorem execWr_wrong_direction {s : State} (h : s.dir ≠ .w) (d : Byte) : execWr d s = .refused .hostGrammar :=
  if_pos h

/-- A read against the direction has no move; nothing else is asked first (R76). -/
theorem execRd_wrong_direction {s : State} (h : s.dir ≠ .r) : execRd s = .refused .hostGrammar := if_pos h

/-- Settles O13: the direction is the first thing both events ask. -/
theorem wrongDirectionHasNoMove : Obligations.WrongDirectionHasNoMove :=
  fun _ => ⟨fun d h => execWr_wrong_direction h d, execRd_wrong_direction⟩

end Sys2Proof.Machine
end

section
/-! The events of the bus front-end, and the rows of a byte (40_bus_front_end.md R93 to R109): what each event does
where it completes, and that the row the state selects does the same. -/

namespace Sys2Proof.Machine

open Sys2Proof

/-! ### The gate (R96) -/

theorem gate_eq_false_iff (s : State) : gate s = false ↔ s.dev = .none ∨ s.ovf = true := by
  rw [← Bool.not_eq_true, gate_iff, not_and_or, not_not, Bool.not_eq_false]

/-! ### WR and RD (R97 to R99) -/

theorem execWr_closed {s : State} (dir : s.dir = .w) (closed : gate s = false) (d : Byte) :
    execWr d s = .next s := by
  simp [execWr, dir, closed]

theorem execWr_pointer {s : State} (opened : gate s = true) (dir : s.dir = .w) (pointer : s.expectPtr = true)
    (d : Byte) : execWr d s = .next (loadPointer d s) := by
  simp [execWr, dir, opened, pointer]

theorem execWr_access {s : State} {g : Region} (access : s.WriteAccess g) (d : Byte) :
    execWr d s = .next (afterWrite s (writeHandler g d s)) := by
  obtain ⟨dev, ovf, dir, pointer, region⟩ := access
  have opened : gate s = true := (gate_iff s).mpr ⟨dev, ovf⟩
  simp [execWr, dir, opened, pointer, State.region, region]

/-- A written byte that has an outcome meets a closed gate, loads the cursor, or reaches the cursor's region. -/
theorem execWr_next_cases {s t : State} {d : Byte} (h : execWr d s = .next t) :
    s.dir = .w ∧ gate s = false ∧ t = s ∨
      s.dir = .w ∧ gate s = true ∧ s.expectPtr = true ∧ t = loadPointer d s ∨
      s.WriteAccess s.region ∧ t = afterWrite s (writeHandler s.region d s) := by
  unfold execWr at h
  split_ifs at h with dir closed pointer
  · cases h
    exact .inl ⟨not_not.mp dir, by simpa using closed, rfl⟩
  · cases h
    exact .inr (.inl ⟨not_not.mp dir, by simpa using closed, pointer, rfl⟩)
  · cases h
    obtain ⟨dev, ovf⟩ := (gate_iff s).mp (by simpa using closed)
    exact .inr (.inr ⟨⟨dev, ovf, not_not.mp dir, by simpa using pointer, rfl⟩, rfl⟩)

theorem execRd_closed {s : State} (dir : s.dir = .r) (closed : gate s = false) :
    execRd s = .next (s.signal (.hostRead sentinel)) := by
  simp [execRd, dir, closed]

theorem execRd_access {s : State} {g : Region} (access : s.ReadAccess g) :
    execRd s = .next (afterRead s (readHandler g s)) := by
  obtain ⟨dev, ovf, dir, region⟩ := access
  have opened : gate s = true := (gate_iff s).mpr ⟨dev, ovf⟩
  simp [execRd, dir, opened, State.region, region]

/-- A requested byte that has an outcome meets a closed gate, or comes from the cursor's region. -/
theorem execRd_next_cases {s t : State} (h : execRd s = .next t) :
    s.dir = .r ∧ gate s = false ∧ t = s.signal (.hostRead sentinel) ∨
      s.ReadAccess s.region ∧ t = afterRead s (readHandler s.region s) := by
  unfold execRd at h
  split_ifs at h with dir closed
  · cases h
    exact .inl ⟨not_not.mp dir, by simpa using closed, rfl⟩
  · cases h
    obtain ⟨dev, ovf⟩ := (gate_iff s).mp (by simpa using closed)
    exact .inr ⟨⟨dev, ovf, not_not.mp dir, rfl⟩, rfl⟩

theorem execPtr_selected {s : State} (opened : gate s = true) (dir : s.dir = .w) (pointer : s.expectPtr = true)
    (r : Byte) : execPtr r s = .next (loadPointer r s) :=
  rowWhen_true (by simp [opened, dir, pointer]) _

/-! ### The rows of a written byte -/

/-- The row of a region does what the region's handler does. -/
theorem exec_regWrite_access {s : State} {g : Region} (access : s.WriteAccess g) (d : Byte) :
    exec (decodeRegWrite d g) s = .next (afterWrite s (writeHandler g d s)) := by
  have selected : writesAt s g = true := (writesAt_iff s g).mpr access
  cases g <;> exact rowWhen_true selected _

/-- The row of a command code does what `SessCommand` does (R131). -/
theorem exec_progCommand_access {s : State} (access : s.WriteAccess .cmd) (mode : s.progMode = true) (d : Byte) :
    exec (decodeProgCommand s.cfg d) s = .next (afterWrite s (sessCommand d s)) := by
  have selected : commandsSession s = true := by simp [commandsSession, (writesAt_iff s .cmd).mpr access, mode]
  unfold decodeProgCommand sessCommand
  split_ifs with erase write read disable
  · exact rowWhen_true selected _
  · exact rowWhen_true selected _
  · exact rowWhen_true selected _
  · exact rowWhen_true selected _
  · exact rowWhen_true (by simp [selected, Config.progCodes, erase, write, read, disable]) _

/-- The row of a parameter byte does what `SessParam` does (R137). -/
theorem exec_param_access {s : State} (access : s.WriteAccess .cmdp) (mode : s.progMode = true) (d : Byte) :
    exec (decodeParam d (paramRole s.ses.phase)) s = .next (afterWrite s (sessParam d s)) := by
  have selected : paramsSession s (paramRole s.ses.phase) = true := by
    simp [paramsSession, (writesAt_iff s .cmdp).mpr access, mode]
  unfold sessParam
  cases role : paramRole s.ses.phase <;> exact rowWhen_true (role ▸ selected) _

/-- The row of a byte written on the data channel does what `SessDataWrite` does (R147). -/
theorem exec_chanWrite_access {s : State} (access : s.WriteAccess .data) (d : Byte) :
    exec (decodeChanWrite d (chanWriteRole s.ses)) s = .next (afterWrite s (sessDataWrite d s)) := by
  have selected : channelWrites s (chanWriteRole s.ses) = true := by
    simp [channelWrites, (writesAt_iff s .data).mpr access]
  unfold sessDataWrite
  cases role : chanWriteRole s.ses <;> exact rowWhen_true (role ▸ selected) _

/-- The row selected for a written byte has the outcome of WR. -/
theorem exec_writeSlot {s : State} {b : Byte} {i : Instr} (hd : decode s.cfg (writeSlot s) [b] = .ok i) :
    exec i s = execWr b s := by
  unfold writeSlot at hd
  by_cases closed : (!gate s || s.dir != .w) = true
  · rw [if_pos closed] at hd
    cases hd
    rfl
  rw [if_neg closed] at hd
  obtain ⟨opened, dir⟩ : gate s = true ∧ s.dir = .w := by simpa using closed
  by_cases pointer : s.expectPtr = true
  · rw [if_pos pointer] at hd
    cases hd
    rw [execWr_pointer opened dir pointer]
    exact execPtr_selected opened dir pointer b
  rw [if_neg pointer] at hd
  obtain ⟨dev, ovf⟩ := (gate_iff s).mp opened
  have access : s.WriteAccess s.region := ⟨dev, ovf, dir, by simpa using pointer, rfl⟩
  rw [execWr_access access]
  cases hg : s.region with
  | cmd =>
    rw [hg] at hd access
    cases mode : s.progMode with
    | true =>
      simp only [mode, if_true] at hd
      cases hd
      simpa [writeHandler, wrCmd, mode] using exec_progCommand_access access mode b
    | false =>
      simp only [mode] at hd
      cases hd
      exact exec_regWrite_access access b
  | cmdp =>
    rw [hg] at hd access
    cases mode : s.progMode with
    | true =>
      simp only [mode, if_true] at hd
      cases hd
      simpa [writeHandler, wrCmdp, mode] using exec_param_access access mode b
    | false =>
      simp only [mode] at hd
      cases hd
      exact exec_regWrite_access access b
  | data =>
    rw [hg] at hd access
    cases hd
    exact exec_chanWrite_access access b
  | _ =>
    rw [hg] at hd access
    cases hd
    exact exec_regWrite_access access b

/-! ### The rows of a requested byte -/

/-- The row of a region does what the region's handler does. -/
theorem exec_regRead_access {s : State} {g : Region} (access : s.ReadAccess g) :
    exec (decodeRegRead g) s = .next (afterRead s (readHandler g s)) := by
  have selected : readsAt s g = true := (readsAt_iff s g).mpr access
  cases g <;> exact rowWhen_true selected _

/-- The row of a byte read on the data channel does what `SessDataRead` does (R152). -/
theorem exec_chanRead_access {s : State} (access : s.ReadAccess .data) :
    exec (decodeChanRead (chanReadRole s.ses)) s = .next (afterRead s (sessDataRead s)) := by
  have selected : channelReads s (chanReadRole s.ses) = true := by
    simp [channelReads, (readsAt_iff s .data).mpr access]
  unfold sessDataRead
  cases role : chanReadRole s.ses <;> exact rowWhen_true (role ▸ selected) _

/-- The row selected for a requested byte has the outcome of RD. -/
theorem exec_readSlot {s : State} {i : Instr} (hd : decode s.cfg (readSlot s) [] = .ok i) :
    exec i s = execRd s := by
  unfold readSlot at hd
  by_cases closed : (!gate s || s.dir != .r) = true
  · rw [if_pos closed] at hd
    cases hd
    rfl
  rw [if_neg closed] at hd
  obtain ⟨opened, dir⟩ : gate s = true ∧ s.dir = .r := by simpa using closed
  obtain ⟨dev, ovf⟩ := (gate_iff s).mp opened
  have access : s.ReadAccess s.region := ⟨dev, ovf, dir, rfl⟩
  rw [execRd_access access]
  cases hg : s.region with
  | data =>
    rw [hg] at hd access
    cases hd
    exact exec_chanRead_access access
  | _ =>
    rw [hg] at hd access
    cases hd
    exact exec_regRead_access access

/-! ### The rows of a pass -/

theorem tickDispatch_none {s : State} (none : s.pend = .none) : tickDispatch s = s := by
  simp [tickDispatch, none]

theorem tickDispatch_some {s : State} {c : Byte} (found : s.pend = some c) :
    tickDispatch s = (runtimeExec c s).setPend none := by
  simp [tickDispatch, found]

/-- The row of a pending code does what `RuntimeExec` and the rest of the pass do (R178). -/
theorem exec_pendingCode {s : State} {c : Byte} (found : s.pend = some c) :
    exec (decodeRuntimeCommand s.cfg c) s = .next (restOfTick (runtimeExec c s)) := by
  have selected : finds s c = true := by simp [finds, found]
  unfold decodeRuntimeCommand runtimeExec
  split_ifs with progEn cfgEn cfgDis load store default encEn
  · exact rowWhen_true (progEn ▸ selected) _
  · exact rowWhen_true (cfgEn ▸ selected) _
  · exact rowWhen_true (cfgDis ▸ selected) _
  · exact rowWhen_true (load ▸ selected) _
  · exact rowWhen_true (store ▸ selected) _
  · exact rowWhen_true (default ▸ selected) _
  · exact rowWhen_true (encEn ▸ selected) _
  · exact rowWhen_true
      (by simp [selected, Config.runtimeCodes, progEn, cfgEn, cfgDis, load, store, default, encEn]) _

/-- The row selected for a pass has the outcome of TICK. -/
theorem exec_tickInput {s : State} {i : Instr} (hd : decode s.cfg (tickInput s).1 (tickInput s).2 = .ok i) :
    exec i s = execTick s := by
  unfold tickInput at hd
  cases hp : s.pend with
  | none =>
    rw [hp] at hd
    cases hd
    rfl
  | some c =>
    rw [hp] at hd
    cases hd
    rw [exec_pendingCode hp, execTick, tickDispatch_some hp, restOfTick]

/-- Settles O5: a byte meets a closed gate, is a pointer byte, or reaches a region, whose row is its handler's case;
a pass finds a code or none. -/
theorem selectedRowRefinesTheEventHandler : Obligations.SelectedRowRefinesTheEventHandler :=
  ⟨fun _ _ _ => exec_writeSlot, fun _ _ => exec_readSlot, fun _ _ => exec_tickInput⟩

end Sys2Proof.Machine
end

section
/-! The statements on single events of the bus front-end, and on an access to a region. -/

namespace Sys2Proof.Machine

open Sys2Proof

/-! ### An access to a region -/

/-- A byte read on the data channel moves the session alone (R152). -/
theorem sessDataRead_setSes (s : State) : ∃ x, (sessDataRead s).2 = s.setSes x := by
  unfold sessDataRead
  cases chanReadRole s.ses with
  | lo => exact ⟨_, rfl⟩
  | hi => exact ⟨_, rfl⟩
  | csum =>
    simp only [serveChecksum]
    split_ifs
    · split <;> exact ⟨_, rfl⟩
    · exact ⟨_, rfl⟩
  | other => exact ⟨s.ses, rfl⟩

/-- A read handler changes the session alone (R99). -/
theorem readHandler_setSes (g : Region) (s : State) : ∃ x, (readHandler g s).2 = s.setSes x := by
  cases g with
  | data => exact sessDataRead_setSes s
  | _ => exact ⟨s.ses, rfl⟩

/-- Settles O6: the event and the row of the region both run the region's handler and then move the cursor. -/
theorem regionRowsCompleteAsTheirEvents : Obligations.RegionRowsCompleteAsTheirEvents := by
  refine ⟨fun s g b access => ?_, fun s g access => ?_⟩
  · exact ⟨_, execWr_access access b, exec_regWrite_access access b, rfl⟩
  · obtain ⟨x, hx⟩ := readHandler_setSes g s
    refine ⟨_, (readHandler g s).1, execRd_access access, exec_regRead_access access, ?_, ?_, ?_⟩
    · exact List.getLast?_concat
    · rw [afterRead, hx]
      rfl
    · rw [afterRead, hx]
      rfl

/-! ### Single events -/

theorem execAddrW_matches {s : State} {a : BusAddr} (reaches : s.cfg.matchesAddr a = true) :
    execAddrW a s = .next (s.setTransaction (identify s.cfg a) .w true) :=
  rowWhen_true reaches _

theorem execAddrR_matches {s : State} {a : BusAddr} (reaches : s.cfg.matchesAddr a = true) :
    execAddrR a s = .next (s.setTransaction (identify s.cfg a) .r false) :=
  rowWhen_true reaches _

theorem identify_single {c : Config} (single : c.dual = false) (a : BusAddr) : identify c a = .a := by
  simp [identify, single]

theorem identify_dual {c : Config} (dual : c.dual = true) (a : BusAddr) :
    identify c a = if a = c.addrA then .a else if a = c.addrB then .b else .none := by
  simp [identify, dual]

/-- Settles O10: the device is `Identify` of the address, which R95 gives in four cases. -/
theorem addressEventsRecordTheDevice : Obligations.AddressEventsRecordTheDevice := by
  intro s a reaches
  refine ⟨identify s.cfg a, fun single => identify_single single a, fun dual ha => ?_, fun dual ha hb => ?_,
    fun dual ha hb => ?_, execAddrW_matches reaches, execAddrR_matches reaches⟩
  · rw [identify_dual dual, if_pos ha]
  · rw [identify_dual dual, if_neg ha, if_pos hb]
  · rw [identify_dual dual, if_neg ha, if_neg hb]

/-- Settles O11: the row's selector holds, and WR asks the address-phase flag before the region. -/
theorem pointerByteLoadsTheCursor : Obligations.PointerByteLoadsTheCursor := by
  intro s r dev ovf dir pointer
  have opened : gate s = true := (gate_iff s).mpr ⟨dev, ovf⟩
  exact ⟨execPtr_selected opened dir pointer r, execWr_pointer opened dir pointer r⟩

/-- Settles O12: WR and RD ask the gate right after the direction, and the address events do not ask it. -/
theorem closedGateIgnoresBytes : Obligations.ClosedGateIgnoresBytes := by
  intro s h
  have closed : gate s = false := (gate_eq_false_iff s).mpr h
  refine ⟨fun dir d => execWr_closed dir closed d, fun dir => execRd_closed dir closed, fun a reaches => ?_⟩
  exact ⟨⟨_, execAddrW_matches reaches, rfl⟩, ⟨_, execAddrR_matches reaches, rfl⟩⟩

/-- Settles O15: both events complete in every state, and write only these flags. -/
theorem stopAndOverflowEvents : Obligations.StopAndOverflowEvents := fun _ => ⟨rfl, rfl⟩

theorem execAppwr_below {s : State} {idx : BitVec 9} (h : idx.toNat < s.cfg.cap) (b : Byte) :
    execAppwr idx b s = .next (s.rfWrite idx.toNat b) :=
  if_pos h

/-- Settles O16: the event is one store in the register file. -/
theorem applicationWriteStoresOneByte : Obligations.ApplicationWriteStoresOneByte := by
  intro s idx b length below
  have inFile : idx.toNat < s.rf.length := length ▸ below
  exact ⟨_, execAppwr_below below b, fun j => rfByte_rfWrite s idx.toNat j b inFile, rfl⟩

/-- Settles O17: the index is compared with `CAP` before the store. -/
theorem applicationWritePastTheFileStops : Obligations.ApplicationWritePastTheFileStops :=
  fun _ _ _ past => if_neg (Nat.not_lt.mpr past)

/-- Settles O40: the dispatcher part finds no code, and the session part no action. -/
theorem idlePassChangesNothing : Obligations.IdlePassChangesNothing := by
  intro s none noWrite noErase
  have session : tickSession s = s := by
    obtain same | ⟨phase, -⟩ | ⟨phase, -⟩ := tickSession_cases s
    · exact same
    · exact absurd phase noWrite
    · exact absurd phase noErase
  change execTick s = .next s
  rw [execTick, tickDispatch_none none, session]

end Sys2Proof.Machine
end

section
/-! One step, by the input it takes: the event it delivers, or the byte that is none (30_encoding.md R77;
40_bus_front_end.md R110; 70_reset_and_hazards.md R214). -/

namespace Sys2Proof.Machine

open Sys2Proof

/-! ### The equation of each input -/

theorem step_of_fetch_other {s t : State} (hwf : s.cfg.wf = true) (hf : fetch s = .other t) : step s = .next t := by
  rw [step_of_wf hwf, hf]
  rfl

theorem step_of_fetch_row {s t : State} {slot : Slot} {bytes : List Byte} {i : Instr} (hwf : s.cfg.wf = true)
    (hf : fetch s = .row slot bytes t) (hd : decode s.cfg slot bytes = .ok i) : step s = exec i t := by
  rw [step_of_wf hwf, hf, runFetched_row hd]

section
variable {s : State} (hwf : s.cfg.wf = true) {rest : List Event}
include hwf

theorem step_address_matching {b : Byte} (input : s.inbox = .address b :: rest)
    (reaches : s.cfg.matchesAddr (addressField b) = true) :
    step s = .next ({ s with inbox := rest, bus := .ours }.setTransaction (identify s.cfg (addressField b))
      (if readBit b then .r else .w) (!readBit b)) := by
  have hf : fetch s = .row .address [b] { s with inbox := rest, bus := .ours } := by simp [fetch, input, reaches]
  have hd : decode s.cfg .address [b] =
      .ok (if readBit b then .addrR (addressField b) else .addrW (addressField b)) := by
    simp [decode, oneByte, decodeAddress, reaches]
  rw [step_of_fetch_row hwf hf hd]
  cases readBit b with
  | true => exact execAddrR_matches reaches
  | false => exact execAddrW_matches reaches

theorem step_address_foreign {b : Byte} (input : s.inbox = .address b :: rest)
    (other : s.cfg.matchesAddr (addressField b) = false) :
    step s = .next { s with inbox := rest, bus := .foreign } :=
  step_of_fetch_other hwf (by simp [fetch, input, other])

/-- A written byte of the block's transaction, or against the direction of a cut one, is the event WR. -/
theorem step_write_delivered {b : Byte} (input : s.inbox = .write b :: rest)
    (delivered : s.bus = .ours ∨ s.bus = .cutRead) : step s = execWr b { s with inbox := rest } := by
  obtain ⟨i, hd⟩ := decode_writeSlot { s with inbox := rest } s.cfg b
  have hf : fetch s = .row (writeSlot { s with inbox := rest }) [b] { s with inbox := rest } := by
    rcases delivered with bus | bus <;> simp only [fetch, input, bus] <;> rfl
  rw [step_of_fetch_row hwf hf hd]
  exact exec_writeSlot (s := { s with inbox := rest }) hd

theorem step_write_ignored {b : Byte} (input : s.inbox = .write b :: rest)
    (ignored : s.bus = .foreign ∨ s.bus = .cutWrite) : step s = .next { s with inbox := rest } :=
  step_of_fetch_other hwf (by rcases ignored with bus | bus <;> simp only [fetch, input, bus])

/-- A byte requested in the block's transaction, or against the direction of a cut one, is the event RD. -/
theorem step_read_delivered (input : s.inbox = .read :: rest) (delivered : s.bus = .ours ∨ s.bus = .cutWrite) :
    step s = execRd { s with inbox := rest } := by
  obtain ⟨i, hd⟩ := decode_readSlot { s with inbox := rest } s.cfg
  have hf : fetch s = .row (readSlot { s with inbox := rest }) [] { s with inbox := rest } := by
    rcases delivered with bus | bus <;> simp only [fetch, input, bus] <;> rfl
  rw [step_of_fetch_row hwf hf hd]
  exact exec_readSlot (s := { s with inbox := rest }) hd

theorem step_read_foreign (input : s.inbox = .read :: rest) (foreign : s.bus = .foreign) :
    step s = .next { s with inbox := rest } :=
  step_of_fetch_other hwf (by simp only [fetch, input, foreign])

theorem step_read_cut (input : s.inbox = .read :: rest) (cut : s.bus = .cutRead) :
    step s = .next ({ s with inbox := rest }.signal (.hostRead sentinel)) :=
  step_of_fetch_other hwf (by simp only [fetch, input, cut])

theorem step_stop (input : s.inbox = .stop :: rest) : step s = execStop { s with inbox := rest, bus := .ours } :=
  step_of_fetch_row hwf (i := .stop) (slot := .stop) (bytes := []) (by simp only [fetch, input]) rfl

theorem step_ovf (input : s.inbox = .ovf :: rest) : step s = execOvf { s with inbox := rest } :=
  step_of_fetch_row hwf (i := .ovf) (slot := .ovf) (bytes := []) (by simp only [fetch, input]) rfl

theorem step_appwr {idx : BitVec 9} {b : Byte} (input : s.inbox = .appwr idx b :: rest) :
    step s = execAppwr idx b { s with inbox := rest } :=
  step_of_fetch_row hwf (i := .appwr idx b) (slot := .appwr idx) (bytes := [b]) (by simp only [fetch, input]) rfl

theorem step_reset (input : s.inbox = .reset :: rest) : step s = execReset { s with inbox := rest } :=
  step_of_fetch_row hwf (i := .reset) (slot := .reset) (bytes := []) (by simp only [fetch, input]) rfl

theorem step_tick (input : s.inbox = .tick :: rest) : step s = execTick { s with inbox := rest } := by
  obtain ⟨i, hd⟩ := decode_tickInput { s with inbox := rest } s.cfg
  have hf : fetch s = .row (tickInput { s with inbox := rest }).1 (tickInput { s with inbox := rest }).2
      { s with inbox := rest } := by
    simp only [fetch, input]
    rfl
  rw [step_of_fetch_row hwf hf hd]
  exact exec_tickInput (s := { s with inbox := rest }) hd

/-- With no input waiting the main loop makes a pass. -/
theorem step_no_input (input : s.inbox = []) : step s = execTick s := by
  obtain ⟨i, hd⟩ := decode_tickInput s s.cfg
  have hf : fetch s = .row (tickInput s).1 (tickInput s).2 s := by simp only [fetch, input]
  rw [step_of_fetch_row hwf hf hd]
  exact exec_tickInput hd

end

/-! ### Why a step refuses -/

/-- A step refuses for an ill-formed configuration, or for a data event against the direction (R12, R76). -/
theorem step_refused {s : State} {r : Refusal} (h : step s = .refused r) : r = .badConfig ∨ r = .hostGrammar := by
  by_cases hwf : s.cfg.wf = true
  case neg =>
    rw [step_of_not_wf hwf] at h
    cases h
    exact .inl rfl
  refine .inr ?_
  cases input : s.inbox with
  | nil =>
    rw [step_no_input hwf input] at h
    cases h
  | cons e rest =>
    cases e with
    | address b =>
      cases reaches : s.cfg.matchesAddr (addressField b) with
      | true =>
        rw [step_address_matching hwf input reaches] at h
        cases h
      | false =>
        rw [step_address_foreign hwf input reaches] at h
        cases h
    | write b =>
      cases bus : s.bus with
      | ours => exact execWr_refused ((step_write_delivered hwf input (.inl bus)).symm.trans h)
      | cutRead => exact execWr_refused ((step_write_delivered hwf input (.inr bus)).symm.trans h)
      | foreign => cases (step_write_ignored hwf input (.inl bus)).symm.trans h
      | cutWrite => cases (step_write_ignored hwf input (.inr bus)).symm.trans h
    | read =>
      cases bus : s.bus with
      | ours => exact execRd_refused ((step_read_delivered hwf input (.inl bus)).symm.trans h)
      | cutWrite => exact execRd_refused ((step_read_delivered hwf input (.inr bus)).symm.trans h)
      | foreign => cases (step_read_foreign hwf input bus).symm.trans h
      | cutRead => cases (step_read_cut hwf input bus).symm.trans h
    | stop => cases (step_stop hwf input).symm.trans h
    | ovf => cases (step_ovf hwf input).symm.trans h
    | appwr idx b => exact absurd ((step_appwr hwf input).symm.trans h) (execAppwr_not_refused _ _ _ r)
    | tick => cases (step_tick hwf input).symm.trans h
    | reset => cases (step_reset hwf input).symm.trans h

/-- Settles O7: the row of each input has the outcome of its event, and no event refuses by these two names. -/
theorem stepNeverMeetsAnUnselectedRow : Obligations.StepNeverMeetsAnUnselectedRow := by
  refine fun s => ⟨fun h => ?_, fun e h => ?_⟩
  · obtain hr | hr := step_refused h <;> cases hr
  · obtain hr | hr := step_refused h <;> cases hr

/-- Settles O9: the step's equation for each input of the transaction; the STOP is delivered whoever owns the bus. -/
theorem otherDevicesDeliverOnlyTheirStop : Obligations.OtherDevicesDeliverOnlyTheirStop := by
  intro s rest hwf
  exact ⟨fun _ input other => step_address_foreign hwf input other,
    fun _ input bus => step_write_ignored hwf input (.inl bus), fun input bus => step_read_foreign hwf input bus,
    fun input => step_stop hwf input⟩

end Sys2Proof.Machine
end

section
/-! Isolation of the two devices (40_bus_front_end.md R104): which register-file bytes a transaction writes and reads,
and that the control registers act alike for both devices. -/

namespace Sys2Proof.Machine

open Sys2Proof

/-! ### Handlers that use neither the register file nor the device -/

/-- The same block with another register file, in a transaction of another device. -/
abbrev State.withRegisters (s : State) (x : List Byte) (d : Dev) : State := { s with rf := x, dev := d }

/-- The regions whose bytes the register file holds (41_register_access.md R111 to R113). -/
def isStored : Region → Bool
  | .app | .cal | .key => true
  | _ => false

section
variable (s : State) (x : List Byte) (d : Dev) (b : Byte)

theorem sessCommand_withRegisters :
    sessCommand b (s.withRegisters x d) = (sessCommand b s).withRegisters x d := by
  unfold sessCommand
  split_ifs <;> rfl

theorem paramAddrHi_withRegisters :
    paramAddrHi b (s.withRegisters x d) = (paramAddrHi b s).withRegisters x d := by
  unfold paramAddrHi
  dsimp only
  split_ifs <;> rfl

theorem paramLen_withRegisters : paramLen b (s.withRegisters x d) = (paramLen b s).withRegisters x d := by
  unfold paramLen
  dsimp only
  split_ifs <;> rfl

theorem sessParam_withRegisters : sessParam b (s.withRegisters x d) = (sessParam b s).withRegisters x d := by
  unfold sessParam
  dsimp only
  cases paramRole s.ses.phase with
  | addrLo => rfl
  | addrHi => exact paramAddrHi_withRegisters s x d b
  | len => exact paramLen_withRegisters s x d b
  | other => rfl

theorem confirmWrite_withRegisters :
    confirmWrite b (s.withRegisters x d) = (confirmWrite b s).withRegisters x d := by
  unfold confirmWrite
  split_ifs <;> rfl

theorem sessDataWrite_withRegisters :
    sessDataWrite b (s.withRegisters x d) = (sessDataWrite b s).withRegisters x d := by
  unfold sessDataWrite
  dsimp only
  cases chanWriteRole s.ses with
  | lo => rfl
  | hi => rfl
  | confirm => exact confirmWrite_withRegisters s x d b
  | other => rfl

theorem serveChecksum_withRegisters :
    serveChecksum (s.withRegisters x d) = ((serveChecksum s).1, (serveChecksum s).2.withRegisters x d) := by
  unfold serveChecksum
  dsimp only
  split_ifs
  · cases s.cfg.writeCommit <;> rfl
  · rfl

theorem sessDataRead_withRegisters :
    sessDataRead (s.withRegisters x d) = ((sessDataRead s).1, (sessDataRead s).2.withRegisters x d) := by
  unfold sessDataRead
  dsimp only
  cases chanReadRole s.ses with
  | lo => rfl
  | hi => rfl
  | csum => exact serveChecksum_withRegisters s x d
  | other => rfl

/-- A write handler outside the stored regions neither reads nor writes the register file, and does not ask for the
device. -/
theorem writeHandler_withRegisters {g : Region} (stored : isStored g = false) :
    writeHandler g b (s.withRegisters x d) = (writeHandler g b s).withRegisters x d := by
  cases g with
  | app | cal | key => cases stored
  | cmd =>
    unfold writeHandler wrCmd
    dsimp only
    split_ifs
    · exact sessCommand_withRegisters s x d b
    · rfl
  | cmdp =>
    unfold writeHandler wrCmdp
    dsimp only
    split_ifs
    · exact sessParam_withRegisters s x d b
    · rfl
  | data => exact sessDataWrite_withRegisters s x d b
  | custom | id | invalid => rfl

/-- Such a handler leaves the register file and the device. -/
theorem writeHandler_registers {g : Region} (stored : isStored g = false) :
    (writeHandler g b s).rf = s.rf ∧ (writeHandler g b s).dev = s.dev := by
  have same := writeHandler_withRegisters s s.rf s.dev b stored
  have rf := congrArg State.rf same
  have dev := congrArg State.dev same
  exact ⟨rf, dev⟩

theorem writeHandler_setRf {g : Region} (stored : isStored g = false) :
    writeHandler g b (s.setRf x) = (writeHandler g b s).setRf x := by
  obtain ⟨-, dev⟩ := writeHandler_registers s b stored
  calc writeHandler g b (s.setRf x)
    _ = (writeHandler g b s).withRegisters x s.dev := writeHandler_withRegisters s x s.dev b stored
    _ = (writeHandler g b s).setRf x := by rw [← dev]; rfl

theorem writeHandler_setDev {g : Region} (stored : isStored g = false) :
    writeHandler g b { s with dev := d } = { writeHandler g b s with dev := d } := by
  obtain ⟨rf, -⟩ := writeHandler_registers s b stored
  calc writeHandler g b { s with dev := d }
    _ = (writeHandler g b s).withRegisters s.rf d := writeHandler_withRegisters s s.rf d b stored
    _ = { writeHandler g b s with dev := d } := by rw [← rf]

/-- A read handler of the control registers does not ask for the device. -/
theorem readHandler_setDev {g : Region} (control : g = .cmd ∨ g = .cmdp ∨ g = .data) :
    readHandler g { s with dev := d } = ((readHandler g s).1, { (readHandler g s).2 with dev := d }) := by
  rcases control with rfl | rfl | rfl
  · rfl
  · rfl
  · obtain ⟨y, hy⟩ := sessDataRead_setSes s
    calc sessDataRead { s with dev := d }
      _ = ((sessDataRead s).1, (sessDataRead s).2.withRegisters s.rf d) := sessDataRead_withRegisters s s.rf d
      _ = ((sessDataRead s).1, { (sessDataRead s).2 with dev := d }) := by rw [hy]; rfl

end

/-! ### The half of a transaction -/

/-- The register-file byte lies in the half of the transaction's device; without a device none does (R104, R130). -/
def State.InHalf (s : State) (j : Nat) : Prop := s.dev ≠ .none ∧ j / 256 = half s.dev

/-- The two register files hold the same bytes in the half of the transaction's device. -/
def State.SameHalf (s : State) (x y : List Byte) : Prop := ∀ j, s.InHalf j → x.getD j 0 = y.getD j 0

theorem rfIndex_inHalf {s : State} (dev : s.dev ≠ .none) : s.InHalf s.rfIndex := by
  obtain ⟨lower, upper⟩ := rfIndex_bounds s
  exact ⟨dev, by omega⟩

/-- A store at one index keeps the halves the same. -/
theorem State.SameHalf.set {s : State} {x y : List Byte} (same : s.SameHalf x y) (length : x.length = y.length)
    (i : Nat) (v : Byte) : s.SameHalf (x.set i v) (y.set i v) := by
  intro j hj
  have hxy := same j hj
  simp only [List.getD_eq_getElem?_getD, List.getElem?_set, length] at hxy ⊢
  split_ifs
  · rfl
  · rfl
  · exact hxy

theorem rfByte_rfWrite_ne (s : State) {i j : Nat} (ne : i ≠ j) (v : Byte) :
    (s.rfWrite i v).rfByte j = s.rfByte j := by
  simp only [State.rfByte, State.rfWrite_rf, List.getD_eq_getElem?_getD, List.getElem?_set_ne ne]

/-! ### Written bytes -/

section
variable {s t : State} {b : Byte}

/-- A write handler stores at the cursor's index in the device's half, or not at all. -/
theorem writeHandler_outside (g : Region) (b : Byte) (dev : s.dev ≠ .none) {j : Nat} (outside : ¬ s.InHalf j) :
    (writeHandler g b s).rfByte j = s.rfByte j := by
  have ne : s.rfIndex ≠ j := fun e => outside (e ▸ rfIndex_inHalf dev)
  cases hg : isStored g with
  | false => exact congrArg (List.getD · j 0) (writeHandler_registers s b hg).1
  | true =>
    cases g with
    | app | cal | key => exact rfByte_rfWrite_ne s ne _
    | _ => cases hg

/-- A written byte changes no byte outside the half of its transaction's device (R104). -/
theorem execWr_outside (h : execWr b s = .next t) {j : Nat} (outside : ¬ s.InHalf j) : t.rfByte j = s.rfByte j := by
  obtain ⟨-, -, rfl⟩ | ⟨-, -, -, rfl⟩ | ⟨⟨dev, -⟩, rfl⟩ := execWr_next_cases h
  · rfl
  · rfl
  · exact writeHandler_outside s.region b dev outside

/-- Register files with the same half give a write handler the same outcome, and have the same half after it. -/
theorem writeHandler_sameHalf (g : Region) (b : Byte) {x : List Byte} (length : x.length = s.rf.length)
    (same : s.SameHalf x s.rf) :
    ∃ y, writeHandler g b (s.setRf x) = (writeHandler g b s).setRf y ∧ s.SameHalf y (writeHandler g b s).rf := by
  cases hg : isStored g with
  | false =>
    refine ⟨x, writeHandler_setRf s x b hg, ?_⟩
    rw [(writeHandler_registers s b hg).1]
    exact same
  | true =>
    cases g with
    | app | cal | key => exact ⟨_, rfl, same.set length _ _⟩
    | _ => cases hg

/-- The outcome of a written byte does not depend on the bytes outside the half of its transaction's device (R104). -/
theorem execWr_sameHalf {x : List Byte} (length : x.length = s.rf.length) (same : s.SameHalf x s.rf)
    (h : execWr b s = .next t) : ∃ y, execWr b (s.setRf x) = .next (t.setRf y) ∧ s.SameHalf y t.rf := by
  obtain ⟨dir, closed, rfl⟩ | ⟨dir, opened, pointer, rfl⟩ | ⟨access, rfl⟩ := execWr_next_cases h
  · exact ⟨x, execWr_closed (s := State.setRf _ x) dir closed b, same⟩
  · exact ⟨x, execWr_pointer (s := s.setRf x) opened dir pointer b, same⟩
  · obtain ⟨y, handler, half⟩ := writeHandler_sameHalf s.region b length same
    refine ⟨y, ?_, half⟩
    rw [execWr_access (s := s.setRf x) access, handler]
    rfl

/-- A byte written outside the stored regions has one outcome for every device. -/
theorem execWr_setDev {g : Region} {d : Dev} (stored : isStored g = false) (device : d ≠ .none)
    (access : s.WriteAccess g) :
    execWr b { s with dev := d } = .next { afterWrite s (writeHandler g b s) with dev := d } := by
  obtain ⟨-, opened⟩ := access
  rw [execWr_access (s := { s with dev := d }) ⟨device, opened⟩, writeHandler_setDev s d b stored]
  rfl

end

/-! ### Requested bytes -/

section
variable {s t : State}

/-- A requested byte leaves the register file. -/
theorem execRd_rf (h : execRd s = .next t) : t.rf = s.rf := by
  obtain ⟨-, -, rfl⟩ | ⟨-, rfl⟩ := execRd_next_cases h
  · rfl
  · obtain ⟨y, hy⟩ := readHandler_setSes s.region s
    rw [afterRead, hy]
    rfl

/-- A stored byte is read at the cursor's index in the device's half. -/
theorem rdRf_sameHalf {x : List Byte} (dev : s.dev ≠ .none) (same : s.SameHalf x s.rf) :
    rdRf (s.setRf x) = rdRf s :=
  congrArg (xformOut s s.ptr) (same s.rfIndex (rfIndex_inHalf dev))

/-- Register files with the same half give a read handler the same byte. -/
theorem readHandler_sameHalf (g : Region) {x : List Byte} (dev : s.dev ≠ .none) (same : s.SameHalf x s.rf) :
    readHandler g (s.setRf x) = ((readHandler g s).1, (readHandler g s).2.setRf x) := by
  cases g with
  | app | cal | key => exact congrArg (·, s.setRf x) (rdRf_sameHalf dev same)
  | data =>
    obtain ⟨y, hy⟩ := sessDataRead_setSes s
    calc sessDataRead (s.setRf x)
      _ = ((sessDataRead s).1, (sessDataRead s).2.withRegisters x s.dev) := sessDataRead_withRegisters s x s.dev
      _ = ((sessDataRead s).1, (sessDataRead s).2.setRf x) := by rw [hy]; rfl
  | _ => rfl

/-- The outcome of a requested byte does not depend on the bytes outside the half of its transaction's device (R104). -/
theorem execRd_sameHalf {x : List Byte} (same : s.SameHalf x s.rf) (h : execRd s = .next t) :
    execRd (s.setRf x) = .next (t.setRf x) := by
  obtain ⟨dir, closed, rfl⟩ | ⟨access, rfl⟩ := execRd_next_cases h
  · exact execRd_closed (s := s.setRf x) dir closed
  · rw [execRd_access (s := s.setRf x) access, readHandler_sameHalf s.region access.1 same]
    rfl

/-- A byte read at a control register has one outcome for every device. -/
theorem execRd_setDev {g : Region} {d : Dev} (control : g = .cmd ∨ g = .cmdp ∨ g = .data) (device : d ≠ .none)
    (access : s.ReadAccess g) :
    execRd { s with dev := d } = .next { afterRead s (readHandler g s) with dev := d } := by
  obtain ⟨-, opened⟩ := access
  rw [execRd_access (s := { s with dev := d }) ⟨device, opened⟩, readHandler_setDev s d control]
  rfl

/-! ### Steps -/

/-- A step on a written byte changes no byte outside the half, whoever owns the bus. -/
theorem step_write_outside {b : Byte} {rest : List Event} (input : s.inbox = .write b :: rest)
    (h : step s = .next t) {j : Nat} (outside : ¬ s.InHalf j) : t.rfByte j = s.rfByte j := by
  obtain ⟨hwf, -⟩ := step_effect h
  have event (delivered : s.bus = .ours ∨ s.bus = .cutRead) : t.rfByte j = s.rfByte j := by
    rw [step_write_delivered hwf input delivered] at h
    exact execWr_outside (s := { s with inbox := rest }) h outside
  have ignored (bus : s.bus = .foreign ∨ s.bus = .cutWrite) : t.rfByte j = s.rfByte j := by
    rw [step_write_ignored hwf input bus] at h
    cases h
    rfl
  cases bus : s.bus with
  | ours => exact event (.inl bus)
  | cutRead => exact event (.inr bus)
  | foreign => exact ignored (.inl bus)
  | cutWrite => exact ignored (.inr bus)

/-- A step on a requested byte leaves the register file, whoever owns the bus. -/
theorem step_read_rf {rest : List Event} (input : s.inbox = .read :: rest) (h : step s = .next t) : t.rf = s.rf := by
  obtain ⟨hwf, -⟩ := step_effect h
  have event (delivered : s.bus = .ours ∨ s.bus = .cutWrite) : t.rf = s.rf := by
    rw [step_read_delivered hwf input delivered] at h
    exact execRd_rf (s := { s with inbox := rest }) h
  cases bus : s.bus with
  | ours => exact event (.inl bus)
  | cutWrite => exact event (.inr bus)
  | foreign =>
    rw [step_read_foreign hwf input bus] at h
    cases h
    rfl
  | cutRead =>
    rw [step_read_cut hwf input bus] at h
    cases h
    rfl

end

/-- Settles O54: a stored byte is written and read at the cursor's index in the device's half alone, and every other
handler uses neither the register file nor, at the control registers, the device. -/
theorem transactionsStayInTheirHalf : Obligations.TransactionsStayInTheirHalf := by
  refine ⟨fun s t input h j outside => ?frame, fun s t x i kind length same h => ?independence,
    fun s g d control device => ⟨fun b access => ?write, fun access => ?read⟩⟩
  case frame =>
    obtain ⟨rest, input | ⟨b, input⟩⟩ := input
    · exact congrArg (List.getD · j 0) (step_read_rf input h)
    · exact step_write_outside input h outside
  case independence =>
    obtain rfl | ⟨b, rfl⟩ := kind
    · have rf : t.rf = s.rf := execRd_rf h
      refine ⟨t.setRf x, execRd_sameHalf same h, rfl, fun j inHalf => ?_⟩
      exact (same j inHalf).trans (congrArg (List.getD · j 0) rf.symm)
    · obtain ⟨y, outcome, half⟩ := execWr_sameHalf length same h
      exact ⟨t.setRf y, outcome, rfl, half⟩
  case write =>
    have stored : isStored g = false := by obtain rfl | rfl | rfl := control <;> rfl
    exact ⟨_, execWr_access access b, execWr_setDev stored device access⟩
  case read => exact ⟨_, execRd_access access, execRd_setDev control device access⟩

end Sys2Proof.Machine
end

section
/-! Register access by region (41_register_access.md R111 to R128): the stores of an access, the session's share of the
data channel, and the byte a read delivers. -/

namespace Sys2Proof.Machine

open Sys2Proof

/-! ### The transform (R120) -/

theorem xform_keyed {s : State} {k : List Byte} (mode : s.progMode = false) (key : s.xkey = some k) (r b : Byte) :
    xformIn s r b = decodeByte s.cfg k r b ∧ xformOut s r b = encodeByte s.cfg k r b := by
  simp [xformIn, xformOut, mode, key]

theorem xform_programming {s : State} (mode : s.progMode = true) (r b : Byte) :
    xformIn s r b = b ∧ xformOut s r b = b := by
  simp [xformIn, xformOut, mode]

theorem xform_keyless {s : State} (key : s.xkey = none) (r b : Byte) : xformIn s r b = b ∧ xformOut s r b = b := by
  simp [xformIn, xformOut, key]

/-- Settles O19: the transform asks the mode, then the key. -/
theorem transformOnlyWithAKeyInRuntimeMode : Obligations.TransformOnlyWithAKeyInRuntimeMode := by
  refine fun s r b => ⟨fun k mode key => xform_keyed mode key r b, fun inactive => ?_⟩
  obtain mode | key := inactive
  · exact xform_programming mode r b
  · exact xform_keyless key r b

/-! ### Stored registers (R111 to R113) -/

/-- The half of device B starts at byte 256 (10_state.md R18, R23). -/
theorem rfIndex_eq (s : State) : s.rfIndex = (if s.dev = .b then 256 else 0) + s.ptr.toNat := by
  unfold State.rfIndex Sys2Proof.Machine.rfIndex
  cases s.dev <;> rfl

/-- Device B exists in a dual build only, so the index lies in the register file. -/
theorem State.Inv.rfIndex_lt {s : State} (h : s.Inv) : s.rfIndex < s.rf.length := by
  obtain ⟨-, ⟨length, -⟩, -, ⟨-, -, dual⟩, -⟩ := h
  obtain ⟨-, upper⟩ := rfIndex_bounds s
  rw [length]
  cases device : s.dev with
  | b =>
    rw [Config.cap_dual (dual device)]
    simpa [half, device] using upper
  | none | a =>
    have cap := s.cfg.cap_ge
    simp only [device, half] at upper
    omega

/-- A write whose handler stores `v` stores it in the device's half, and moves the cursor alone besides. -/
theorem exec_regWrite_stores {s : State} {g : Region} {d v : Byte} (h : s.Inv) (access : s.WriteAccess g)
    (stores : writeHandler g d s = s.rfWrite s.rfIndex v) :
    ∃ t, exec (decodeRegWrite d g) s = .next t ∧
      (∀ j, t.rfByte j = if j = (if s.dev = .b then 256 else 0) + s.ptr.toNat then v else s.rfByte j) ∧
      { t with rf := s.rf } = { s with ptr := s.ptr + 1 } := by
  refine ⟨afterWrite s (s.rfWrite s.rfIndex v), stores ▸ exec_regWrite_access access d, fun j => ?_, rfl⟩
  rw [← rfIndex_eq s]
  exact rfByte_rfWrite s s.rfIndex j v h.rfIndex_lt

/-- Settles O20: both handlers store the byte through `XformIn`. -/
theorem appAndCalWritesStoreTheDecodedByte : Obligations.AppAndCalWritesStoreTheDecodedByte :=
  fun _ _ h => ⟨fun access => exec_regWrite_stores h access rfl, fun access => exec_regWrite_stores h access rfl⟩

/-- Settles O21: the key handler stores the byte as written. -/
theorem keyWriteStoresTheRawByte : Obligations.KeyWriteStoresTheRawByte :=
  fun _ _ h access => exec_regWrite_stores h access rfl

/-! ### The command register (R114) -/

theorem wrCmd_runtime {s : State} (mode : s.progMode = false) (d : Byte) : wrCmd d s = s.setPend (some d) := by
  simp [wrCmd, mode]

theorem wrCmd_programming {s : State} (mode : s.progMode = true) (d : Byte) : wrCmd d s = sessCommand d s := by
  simp [wrCmd, mode]

/-- `SessCommand` leaves a fresh session of the code's command, or none (R131). -/
theorem sessCommand_ses (d : Byte) (s : State) :
    (sessCommand d s).ses =
      if d = s.cfg.cErase then freshSession .erase
      else if d = s.cfg.cWrite then freshSession .write
      else if d = s.cfg.cRead then freshSession .read
      else Session.idle := by
  unfold sessCommand
  split_ifs <;> rfl

/-- `SessCommand` moves the session alone, or it is DISABLE, which is logged and may change the mode (R134). -/
theorem sessCommand_cases (d : Byte) (s : State) :
    (∃ x, sessCommand d s = s.setSes x) ∨ d = s.cfg.cDisable ∧ sessCommand d s = doDisable s := by
  unfold sessCommand
  split_ifs with erase write read disable
  · exact .inl ⟨_, rfl⟩
  · exact .inl ⟨_, rfl⟩
  · exact .inl ⟨_, rfl⟩
  · exact .inr ⟨disable, rfl⟩
  · exact .inl ⟨_, rfl⟩

/-- Settles O22: the handler asks the mode, and of the codes of a session only DISABLE is more than a new session. -/
theorem commandRegisterWriteIsRouted : Obligations.CommandRegisterWriteIsRouted := by
  intro s d access
  have row : exec (.wrCmd d) s = .next (afterWrite s (wrCmd d s)) := exec_regWrite_access access d
  refine ⟨fun mode => ?_, fun mode => ?_⟩
  · rw [row, wrCmd_runtime mode]
    rfl
  · rw [wrCmd_programming mode] at row
    refine ⟨_, row, ?frame, ?disable, sessCommand_ses d s⟩
    case frame =>
      obtain ⟨x, moved⟩ | ⟨-, disabled⟩ := sessCommand_cases d s
      · rw [moved]
        rfl
      · rw [disabled]
        rfl
    case disable =>
      obtain ⟨x, moved⟩ | ⟨disable, -⟩ := sessCommand_cases d s
      · rw [moved]
        exact .inr ⟨rfl, mode⟩
      · exact .inl disable

/-! ### Ignored writes (R116 to R118) -/

/-- Settles O24: the three handlers return the state as it was. -/
theorem readOnlyAndInvalidWritesAreIgnored : Obligations.ReadOnlyAndInvalidWritesAreIgnored :=
  fun _ d => ⟨fun access => exec_regWrite_access access d, fun access => exec_regWrite_access access d,
    fun access => exec_regWrite_access access d⟩

/-! ### The cursor after a read (R100) -/

theorem State.ReadAccess.region {s : State} {g : Region} (access : s.ReadAccess g) :
    regionOf s.cfg s.progMode s.ptr = g := by
  obtain ⟨-, -, -, region⟩ := access
  exact region

theorem nextR_of_not_id {c : Config} {pm : Bool} {r : Byte} (region : regionOf c pm r ≠ .id) :
    nextR c pm r = r + 1 :=
  if_neg fun cycles => region cycles.1

/-- The identity range cycles from its register 5. -/
theorem nextR_of_id {c : Config} {pm : Bool} {r : Byte} {i : Nat} (region : regionOf c pm r = .id)
    (register : r.toNat = c.idBase + i) :
    nextR c pm r = if i = 5 then BitVec.ofNat 8 c.idBase else r + 1 := by
  simp [nextR, region, register]

/-! ### The data channel (R119, R128) -/

/-- A byte written on the data channel moves the session alone (R147). -/
theorem sessDataWrite_setSes (d : Byte) (s : State) : ∃ x, sessDataWrite d s = s.setSes x := by
  unfold sessDataWrite
  cases chanWriteRole s.ses with
  | lo => exact ⟨_, rfl⟩
  | hi => exact ⟨_, rfl⟩
  | confirm =>
    simp only [confirmWrite]
    split_ifs <;> exact ⟨_, rfl⟩
  | other => exact ⟨s.ses, rfl⟩

/-- Settles O25: both handlers move the session alone, and the data window does not cycle. -/
theorem dataChannelReachesOnlyTheSession : Obligations.DataChannelReachesOnlyTheSession := by
  refine ⟨fun s d access => ?_, fun s access => ?_⟩
  · obtain ⟨x, moved⟩ := sessDataWrite_setSes d s
    refine ⟨_, exec_regWrite_access access d, ?_⟩
    rw [writeHandler, moved]
    rfl
  · obtain ⟨x, moved⟩ := sessDataRead_setSes s
    refine ⟨_, (sessDataRead s).1, exec_regRead_access access, ?_⟩
    rw [readHandler, afterRead_eq, moved, nextR_of_not_id (access.region ▸ nofun)]
    rfl

/-! ### Reads that deliver a register (R121 to R127) -/

/-- A read whose handler returns `b` and the state as it was delivers `b` and moves the cursor by `NextR`. -/
theorem exec_regRead_delivers {s : State} {g : Region} {b : Byte} (access : s.ReadAccess g)
    (returns : readHandler g s = (b, s)) :
    exec (decodeRegRead g) s =
      .next { s with ptr := nextR s.cfg s.progMode s.ptr, outLog := s.outLog ++ [.hostRead b] } := by
  rw [exec_regRead_access access, returns, afterRead_eq]

/-- Outside the identity registers the cursor moves by one. -/
theorem exec_regRead_advances {s : State} {g : Region} {b : Byte} (access : s.ReadAccess g) (notId : g ≠ .id)
    (returns : readHandler g s = (b, s)) :
    exec (decodeRegRead g) s = .next { s with ptr := s.ptr + 1, outLog := s.outLog ++ [.hostRead b] } := by
  rw [exec_regRead_delivers access returns, nextR_of_not_id (access.region ▸ notId)]

theorem rdRf_eq (s : State) :
    rdRf s = xformOut s s.ptr (s.rfByte ((if s.dev = .b then 256 else 0) + s.ptr.toNat)) := by
  rw [rdRf, rfIndex_eq]

/-- Settles O26: the three regions share one handler, and none of them cycles. -/
theorem registerReadsDeliverTheEncodedByte : Obligations.RegisterReadsDeliverTheEncodedByte := by
  intro s
  dsimp only
  rw [← rdRf_eq s]
  exact ⟨fun access => exec_regRead_advances access nofun rfl, fun access => exec_regRead_advances access nofun rfl,
    fun access => exec_regRead_advances access nofun rfl⟩

theorem rdId_register {s : State} {i : Nat} (register : s.ptr.toNat = s.cfg.idBase + i) :
    rdId s = xformOut s s.ptr ((if s.dev = .b then s.cfg.idB else s.cfg.idA).getD i 0) := by
  rw [rdId, register, Nat.add_sub_cancel_left]

/-- Settles O27: the handler reads the block of the device at the register's number, and the cursor cycles. -/
theorem identityReadsCycle : Obligations.IdentityReadsCycle := by
  intro s i access register
  rw [← rdId_register register, ← nextR_of_id access.region register]
  exact exec_regRead_delivers access rfl

/-- Settles O28: the handlers return their constant, and none of the four regions cycles. -/
theorem constantReads : Obligations.ConstantReads :=
  fun _ => ⟨fun access => exec_regRead_advances access nofun rfl, fun access => exec_regRead_advances access nofun rfl,
    fun access => exec_regRead_advances access nofun rfl, fun access => exec_regRead_advances access nofun rfl⟩

end Sys2Proof.Machine
end

section
/-! The selectors of the session's rows, said once for each meaning of a byte (42_programming_session.md R137, R146,
R147, R152). -/

namespace Sys2Proof.Machine

open Sys2Proof

section
variable {x : Session}

theorem chanWriteRole_lo_iff : chanWriteRole x = .lo ↔ x.InData .write ∧ x.hi = false := by
  unfold chanWriteRole Session.InData
  split_ifs <;> simp_all

theorem chanWriteRole_hi_iff : chanWriteRole x = .hi ↔ x.InData .write ∧ x.hi = true := by
  unfold chanWriteRole Session.InData
  split_ifs <;> simp_all

theorem chanWriteRole_confirm_iff : chanWriteRole x = .confirm ↔ x.phase = .awaitConfirm := by
  unfold chanWriteRole
  split_ifs <;> simp_all

theorem chanWriteRole_other_iff :
    chanWriteRole x = .other ↔ ¬ x.InData .write ∧ x.phase ≠ .awaitConfirm := by
  unfold chanWriteRole Session.InData
  split_ifs <;> simp_all

theorem chanReadRole_lo_iff : chanReadRole x = .lo ↔ x.InData .read ∧ x.hi = false := by
  unfold chanReadRole Session.InData
  split_ifs <;> simp_all

theorem chanReadRole_hi_iff : chanReadRole x = .hi ↔ x.InData .read ∧ x.hi = true := by
  unfold chanReadRole Session.InData
  split_ifs <;> simp_all

theorem chanReadRole_csum_iff : chanReadRole x = .csum ↔ x.phase = .csumOut := by
  unfold chanReadRole
  split_ifs <;> simp_all

theorem chanReadRole_other_iff : chanReadRole x = .other ↔ ¬ x.InData .read ∧ x.phase ≠ .csumOut := by
  unfold chanReadRole Session.InData
  split_ifs <;> simp_all

end

end Sys2Proof.Machine
end

section
/-! The checksum law (42_programming_session.md R157): the bytes that a session record accounts for, and every byte
that a step moves as one that the record takes into account. -/

namespace Sys2Proof.Machine

open Sys2Proof

/-! ### Running sums -/

@[simp] theorem accumulate_nil (acc : Byte) : accumulate acc [] = acc := rfl

theorem accumulate_concat (acc b : Byte) (bs : List Byte) : accumulate acc (bs ++ [b]) = accumulate acc bs + b :=
  List.foldl_concat _ _ _ _

theorem toNat_accumulate (acc : Byte) (bs : List Byte) :
    (accumulate acc bs).toNat = (acc.toNat + (bs.map BitVec.toNat).sum) % 256 := by
  induction bs generalizing acc with
  | nil => exact (Nat.mod_eq_of_lt acc.isLt).symm
  | cons b bs ih =>
    have head : accumulate acc (b :: bs) = accumulate (acc + b) bs := rfl
    rw [head, ih, BitVec.toNat_add, List.map_cons, List.sum_cons]
    omega

/-! ### The bytes that a session record accounts for -/

/-- The byte that the session has moved and not yet accumulated: a low address byte until its high byte (R138), and
the low byte of a data word until its high byte (R148, R153). -/
def Session.held (x : Session) : List Byte :=
  match x.phase with
  | .addrHi => [x.addrLo]
  | .data => if x.hi then [if x.cmd = .write then x.lo else lowByte x.word] else []
  | _ => []

/-- The number of bytes moved since the command byte, as the phase and the word index tell it. -/
def Session.bytesMoved (x : Session) : Nat :=
  match x.phase with
  | .addrHi => 1
  | .len => 2
  | .data => 3 + 2 * x.idx + (if x.hi then 1 else 0)
  | .csumOut => 3 + 2 * x.nwords
  | _ => 0

/-- The session is over, or has served its checksum: it moves no more bytes. -/
def Session.Past (x : Session) : Prop :=
  x.phase = .idle ∨ x.phase = .awaitConfirm ∨ x.phase = .writeReady ∨ x.phase = .eraseReady

/-- The record accounts for the bytes `bs`: their number, their sum, and at the end their checksum. -/
structure Session.Carries (x : Session) (bs : List Byte) : Prop where
  count : bs.length = x.bytesMoved
  sum : accumulate x.acc x.held = accumulate 0 bs
  checksum : x.phase = .csumOut → x.csum = checksumOf x.acc

theorem freshSession_carries (cmd : SesCmd) : (freshSession cmd).Carries [] := ⟨rfl, rfl, nofun⟩

/-- A finalized session accounts for the bytes that its accumulator sums (R150). -/
theorem finalizeSession_carries {x : Session} {bs : List Byte} (count : bs.length = 3 + 2 * x.nwords)
    (sum : x.acc = accumulate 0 bs) : (finalizeSession x).Carries bs := ⟨count, sum, fun _ => rfl⟩

/-- Between two words of the data phase. -/
theorem carries_between_words {x : Session} {bs : List Byte} (phase : x.phase = .data) (hi : x.hi = false)
    (count : bs.length = 3 + 2 * x.idx) (sum : x.acc = accumulate 0 bs) : x.Carries bs where
  count := by simp [Session.bytesMoved, phase, hi, count]
  sum := by simpa [Session.held, phase, hi] using sum
  checksum atEnd := by simp [phase] at atEnd

theorem beginData_carries {x : Session} {bs : List Byte} (start : x.idx = 0) (hi : x.hi = false)
    (count : bs.length = 3) (sum : x.acc = accumulate 0 bs) : (beginData x).Carries bs := by
  unfold beginData
  split_ifs with none
  · exact finalizeSession_carries (by omega) sum
  · exact carries_between_words rfl hi (by simp [start, count]) sum

theorem endWord_carries {x : Session} {bs : List Byte} (phase : x.phase = .data) (hi : x.hi = false)
    (count : bs.length = 3 + 2 * x.idx) (sum : x.acc = accumulate 0 bs) : (endWord x).Carries bs := by
  unfold endWord
  split_ifs with last
  · exact finalizeSession_carries (last ▸ count) sum
  · exact carries_between_words phase hi count sum

/-! ### The moves of one byte -/

/-- The move of the record `x` by the byte `b` of its session (R138 to R154), with what the checksum needs of it. -/
inductive ByteMove (x : Session) (b : Byte) : Session → Prop where
  | addrLo (phase : x.phase = .addrLo) : ByteMove x b { x with addrLo := b, phase := .addrHi }
  | addrHi (wa : Word) (phase : x.phase = .addrHi) :
      ByteMove x b { x with acc := x.acc + x.addrLo + b, waddr := wa, phase := .len }
  | length (buf : List Word) (phase : x.phase = .len) :
      ByteMove x b
        (beginData { x with acc := x.acc + b, nwords := wordCount b, idx := 0, hi := false, buf := buf })
  | writeLow (data : x.InData .write) (hi : x.hi = false) : ByteMove x b { x with lo := b, hi := true }
  | writeHigh (buf : List Word) (data : x.InData .write) (hi : x.hi = true) :
      ByteMove x b (endWord { x with buf := buf, acc := x.acc + x.lo + b, idx := x.idx + 1, hi := false })
  | readLow (data : x.InData .read) (hi : x.hi = false) (served : b = lowByte x.word) :
      ByteMove x b { x with hi := true }
  | readHigh (data : x.InData .read) (hi : x.hi = true) :
      ByteMove x b (endWord { x with acc := x.acc + lowByte x.word + b, idx := x.idx + 1, hi := false })

/-- A session that moves no more bytes has no byte move. -/
theorem ByteMove.not_past {x y : Session} {b : Byte} (move : ByteMove x b y) : ¬ x.Past := by
  unfold Session.Past
  cases move with
  | addrLo phase | addrHi _ phase | length _ phase => simp [phase]
  | writeLow data | writeHigh _ data | readLow data | readHigh data =>
    obtain ⟨phase, -⟩ := data
    simp [phase]

/-- The first byte of a data word is held until the second. -/
theorem carries_low_byte {x : Session} {b lo : Byte} {bs : List Byte} (h : x.Carries bs) (phase : x.phase = .data)
    (hi : x.hi = false) (held : Session.held { x with lo := lo, hi := true } = [b]) :
    Session.Carries { x with lo := lo, hi := true } (bs ++ [b]) where
  count := by simp [h.count, Session.bytesMoved, phase, hi]
  sum := by
    have sum : x.acc = accumulate 0 bs := by simpa [Session.held, phase, hi] using h.sum
    rw [held, accumulate_one, accumulate_concat, sum]
  checksum atEnd := by simp [phase] at atEnd

/-- The second byte of a data word is accumulated with the first (R149, R154). -/
theorem carries_high_byte {x : Session} {b low : Byte} {bs : List Byte} (buf : List Word) (h : x.Carries bs)
    (phase : x.phase = .data) (hi : x.hi = true) (held : x.held = [low]) :
    (endWord { x with buf := buf, acc := x.acc + low + b, idx := x.idx + 1, hi := false }).Carries (bs ++ [b]) := by
  have sum : x.acc + low = accumulate 0 bs := by simpa [held, accumulate_one] using h.sum
  refine endWord_carries phase rfl ?_ ?_
  · rw [List.length_append, h.count]
    simp only [Session.bytesMoved, phase, hi, if_true, List.length_singleton]
    omega
  · simp [accumulate_concat, sum]

/-- Every byte of the session is accounted for by the record it leaves. -/
theorem ByteMove.carries {x y : Session} {b : Byte} {bs : List Byte} (move : ByteMove x b y) (h : x.Carries bs) :
    y.Carries (bs ++ [b]) := by
  have count := h.count
  have sum := h.sum
  cases move with
  | addrLo phase =>
    simp only [Session.held, Session.bytesMoved, phase] at count sum
    refine ⟨by simp [Session.bytesMoved, count], ?_, nofun⟩
    rw [accumulate_concat, ← sum]
    rfl
  | addrHi wa phase =>
    simp only [Session.held, Session.bytesMoved, phase] at count sum
    refine ⟨by simp [Session.bytesMoved, count], ?_, nofun⟩
    rw [accumulate_concat, ← sum]
    rfl
  | length buf phase =>
    simp only [Session.held, Session.bytesMoved, phase] at count sum
    refine beginData_carries rfl rfl (by simp [count]) ?_
    rw [accumulate_concat, ← sum]
    rfl
  | writeLow data hi =>
    obtain ⟨phase, cmd⟩ := data
    exact carries_low_byte h phase hi (by simp [Session.held, phase, cmd])
  | writeHigh buf data hi =>
    obtain ⟨phase, cmd⟩ := data
    exact carries_high_byte buf h phase hi (by simp [Session.held, phase, hi, cmd])
  | readLow data hi served =>
    obtain ⟨phase, cmd⟩ := data
    exact carries_low_byte (lo := x.lo) h phase hi (by simp [Session.held, phase, cmd, served, Session.word])
  | readHigh data hi =>
    obtain ⟨phase, cmd⟩ := data
    exact carries_high_byte x.buf h phase hi (by simp [Session.held, phase, hi, cmd])

end Sys2Proof.Machine
end

section
/-! Every step of a session moves one byte that its record takes in, or none, or ends it; the checksum law. -/

namespace Sys2Proof.Machine

open Sys2Proof

/-! ### The rows of a session's bytes -/

/-- The rows of the bytes of an open session: parameters, data, confirmation and checksum. -/
def isByteRow : Instr → Bool
  | .paramAddrLo _ | .paramAddrHi _ | .paramLen _ | .dataWrLo _ | .dataWrHi _ | .dataWrConfirm _ | .dataRdLo | .dataRdHi
  | .dataRdCsum => true
  | _ => false

theorem SesMove.row_isByteRow {c : Config} {x y : Session} {i : Instr} (move : SesMove c x i y)
    (command : isCommandRow i = false) : isByteRow i = true := by
  cases move with
  | erase | write | read | unknown => cases command
  | _ => rfl

theorem movedBytes_of_not_byteRow {s t : State} (kind : ∀ i, stepRow s = some i → isByteRow i = false) :
    movedBytes s t = [] := by
  unfold movedBytes
  split
  case h_8 => rfl
  all_goals
    rename_i row
    cases kind _ row

theorem deliveredByte_afterRead (s : State) (out : Byte × State) : deliveredByte (afterRead s out) = [out.1] := by
  simp [deliveredByte, afterRead]

/-- The session goes from `x` to `y` while the bytes `moved` pass: it moves no more bytes, or stays as it is, or takes
one byte in. -/
def SessionStep (x y : Session) (moved : List Byte) : Prop :=
  y.Past ∨ (y = x ∧ moved = []) ∨ ∃ b, moved = [b] ∧ ByteMove x b y

theorem idle_past : Session.idle.Past := .inl rfl

/-- A high address byte ends the session, queues an ERASE, or asks for the length (R139, R140). -/
theorem paramAddrHi_step {s : State} (b : Byte) (phase : s.ses.phase = .addrHi) :
    SessionStep s.ses (paramAddrHi b s).ses [b] := by
  obtain ⟨-, e⟩ | ⟨-, e⟩ := paramAddrHi_cases b s <;> rw [e]
  · exact .inl idle_past
  · by_cases erase : s.ses.cmd = .erase
    · exact .inl (by simp [Session.Past, erase])
    · simp only [erase, if_false]
      exact .inr (.inr ⟨b, rfl, .addrHi _ phase⟩)

/-- A length byte is accumulated whatever the command (R141). -/
theorem paramLen_step {s : State} (b : Byte) (phase : s.ses.phase = .len) :
    SessionStep s.ses (paramLen b s).ses [b] := by
  refine .inr (.inr ⟨b, rfl, ?_⟩)
  unfold paramLen
  dsimp only
  split_ifs
  · exact .length _ phase
  · exact .length _ phase

/-- A confirmation byte queues the write or abandons it (R151). -/
theorem confirmWrite_past (b : Byte) (s : State) : (confirmWrite b s).ses.Past := by
  unfold confirmWrite
  split_ifs
  · exact .inr (.inr (.inl rfl))
  · exact idle_past

/-- After its checksum a session is over or waits for its write (R155, R156). -/
theorem serveChecksum_past (s : State) : (serveChecksum s).2.ses.Past := by
  unfold serveChecksum
  dsimp only
  split_ifs
  · split
    · exact .inr (.inr (.inl rfl))
    · exact .inr (.inl rfl)
  · exact idle_past

/-- The row of a session's byte moves the session by the byte that it moves. -/
theorem byteRow_step {s u t : State} {i : Instr} (row : stepRow s = some i) (kind : isByteRow i = true)
    (h : exec i u = .next t) : SessionStep u.ses t.ses (movedBytes s t) := by
  obtain ⟨addrLo, addrHi, len⟩ := phase_of_paramRole (ph := u.ses.phase)
  cases i with
  | paramAddrLo p =>
    obtain ⟨selected, rfl⟩ := (rowWhen_next_iff _ _ _).mp h
    simp only [movedBytes, row]
    exact .inr (.inr ⟨p, rfl, .addrLo (addrLo (of_paramsSession selected).2)⟩)
  | paramAddrHi p =>
    obtain ⟨selected, rfl⟩ := (rowWhen_next_iff _ _ _).mp h
    simp only [movedBytes, row]
    exact paramAddrHi_step p (addrHi (of_paramsSession selected).2)
  | paramLen p =>
    obtain ⟨selected, rfl⟩ := (rowWhen_next_iff _ _ _).mp h
    simp only [movedBytes, row]
    exact paramLen_step p (len (of_paramsSession selected).2)
  | dataWrLo d =>
    obtain ⟨selected, rfl⟩ := (rowWhen_next_iff _ _ _).mp h
    obtain ⟨data, hi⟩ := chanWriteRole_lo_iff.mp (of_channelWrites selected).2
    simp only [movedBytes, row]
    exact .inr (.inr ⟨d, rfl, .writeLow data hi⟩)
  | dataWrHi d =>
    obtain ⟨selected, rfl⟩ := (rowWhen_next_iff _ _ _).mp h
    obtain ⟨data, hi⟩ := chanWriteRole_hi_iff.mp (of_channelWrites selected).2
    simp only [movedBytes, row]
    exact .inr (.inr ⟨d, rfl, .writeHigh _ data hi⟩)
  | dataWrConfirm d =>
    obtain ⟨-, rfl⟩ := (rowWhen_next_iff _ _ _).mp h
    exact .inl (confirmWrite_past d u)
  | dataRdLo =>
    obtain ⟨selected, rfl⟩ := (rowWhen_next_iff _ _ _).mp h
    obtain ⟨data, hi⟩ := chanReadRole_lo_iff.mp (of_channelReads selected).2
    simp only [movedBytes, row, deliveredByte_afterRead]
    exact .inr (.inr ⟨_, rfl, .readLow data hi rfl⟩)
  | dataRdHi =>
    obtain ⟨selected, rfl⟩ := (rowWhen_next_iff _ _ _).mp h
    obtain ⟨data, hi⟩ := chanReadRole_hi_iff.mp (of_channelReads selected).2
    simp only [movedBytes, row, deliveredByte_afterRead]
    exact .inr (.inr ⟨_, rfl, .readHigh data hi⟩)
  | dataRdCsum =>
    obtain ⟨-, rfl⟩ := (rowWhen_next_iff _ _ _).mp h
    exact .inl (serveChecksum_past u)
  | _ => cases kind

/-! ### Every step -/

/-- A pass leaves the session or ends it (R161, R179). -/
theorem pass_ses {s t : State} {i : Instr} (e : PassEffect s i t) : t.ses = s.ses ∨ t.ses = Session.idle := by
  cases e with
  | idle none => exact tickSession_ses s
  | @code _ u b found action =>
    obtain kept | ended := tickSession_ses (u.setPend none)
    · cases action with
      | programEnable => exact .inr kept
      | _ => exact .inl kept
    · exact .inr ended

/-- A step leaves the session, ends it, or moves it by its row (R159). -/
theorem step_ses {s t : State} (e : StepEffect s t) :
    t.ses = s.ses ∨ t.ses = Session.idle ∨ ∃ i, stepRow s = some i ∧ SesMove s.cfg s.ses i t.ses := by
  cases e with
  | write input row effect =>
    cases effect with
    | session mode move => exact .inr (.inr ⟨_, row, move⟩)
    | fill p wa n mode move => exact .inr (.inr ⟨_, row, move⟩)
    | disable mode => exact .inr (.inl rfl)
    | closed | pointer | skipped | register | pending => exact .inl rfl
  | read input row effect =>
    cases effect with
    | session b mode move => exact .inr (.inr ⟨_, row, move⟩)
    | closed | served => exact .inl rfl
  | pass rest row effect => exact (pass_ses effect).imp_right .inl
  | reset input row => exact .inr (.inl rfl)
  | undelivered | cutRead | address | stop | ovf | appwr => exact .inl rfl

theorem fetch_row_ses {s u : State} {slot : Slot} {bytes : List Byte} (h : fetch s = .row slot bytes u) :
    u.ses = s.ses := by
  have frame := (fetch_frame s).1 slot bytes u h
  rw [← frame]

/-- A step that is no command byte moves a byte of the session that the record takes in, or no byte, or ends it. -/
theorem step_sessionStep {s t : State} (h : step s = .next t)
    (command : ∀ i, stepRow s = some i → isCommandRow i = false) : SessionStep s.ses t.ses (movedBytes s t) := by
  by_cases kind : ∃ i, stepRow s = some i ∧ isByteRow i = true
  · obtain ⟨i, row, kind⟩ := kind
    obtain ⟨-, ⟨-, noRow⟩ | ⟨slot, bytes, u, j, hf, -, row', hx⟩⟩ := step_next_cases h
    · cases noRow.symm.trans row
    · cases row'.symm.trans row
      exact fetch_row_ses hf ▸ byteRow_step row kind hx
  · have noByte : movedBytes s t = [] :=
      movedBytes_of_not_byteRow fun i row => by simpa using fun byte => kind ⟨i, row, byte⟩
    obtain kept | ended | ⟨i, row, move⟩ := step_ses (step_effect h).2
    · exact .inr (.inl ⟨kept, noByte⟩)
    · exact .inl (ended ▸ idle_past)
    · exact absurd ⟨i, row, move.row_isByteRow (command i row)⟩ kind

/-! ### The checksum law -/

/-- WRITE and READ start a fresh session (R133, R135). -/
theorem step_starts_session {s t : State} (h : step s = .next t)
    (row : stepRow s = some .pcmdWrite ∨ stepRow s = some .pcmdRead) : ∃ cmd, t.ses = freshSession cmd := by
  obtain ⟨-, ⟨-, noRow⟩ | ⟨slot, bytes, u, i, -, -, row', hx⟩⟩ := step_next_cases h
  · rw [noRow] at row
    obtain row | row := row <;> cases row
  · obtain row | row := row <;> cases row'.symm.trans row <;> obtain ⟨-, rfl⟩ := (rowWhen_next_iff _ _ _).mp hx
    · exact ⟨.write, rfl⟩
    · exact ⟨.read, rfl⟩

/-- All along a session the record accounts for the bytes moved, until the session moves no more. -/
theorem SessionTrace.past_or_carries {bs : List Byte} {s : State} (trace : SessionTrace bs s) :
    s.ses.Past ∨ s.ses.Carries bs := by
  induction trace with
  | start s t hs row =>
    obtain ⟨cmd, fresh⟩ := step_starts_session hs row
    exact .inr (fresh ▸ freshSession_carries cmd)
  | move bs s t _ hs rows ih =>
    obtain past | ⟨kept, moved⟩ | ⟨b, moved, move⟩ := step_sessionStep hs fun i row => (rows i row).1
    · exact .inl past
    · rw [kept, moved, List.append_nil]
      exact ih
    · rw [moved]
      exact .inr (move.carries (ih.resolve_left move.not_past))

/-- A list of three bytes and more is two address bytes, a length byte and the rest. -/
theorem exists_cons_of_length {bs : List Byte} {n : Nat} (h : bs.length = 3 + n) :
    ∃ aL aH len ds, bs = aL :: aH :: len :: ds ∧ ds.length = n := by
  match bs with
  | [] | [_] | [_, _] =>
    simp only [List.length_cons, List.length_nil] at h
    omega
  | aL :: aH :: len :: ds =>
    simp only [List.length_cons] at h
    exact ⟨aL, aH, len, ds, rfl, by omega⟩

/-- At its checksum a session's bytes and the checksum sum to zero. -/
theorem Session.Carries.sum_with_checksum {x : Session} {bs : List Byte} (h : x.Carries bs)
    (phase : x.phase = .csumOut) : ((bs.map BitVec.toNat).sum + x.csum.toNat) % 256 = 0 := by
  have zero : accumulate 0 bs + x.csum = 0 := by
    rw [← h.sum, h.checksum phase]
    simpa [Session.held, phase] using acc_add_checksum x.acc
  have toNat := congrArg BitVec.toNat zero
  rw [BitVec.toNat_add, toNat_accumulate] at toNat
  simpa using toNat

/-- Settles O53: a record that accounts for the bytes moved is kept by every step, and at its checksum closes the
sum. -/
theorem sessionBytesAndChecksumSumToZero : Obligations.SessionBytesAndChecksumSumToZero := by
  intro bs s trace phase
  have carries : s.ses.Carries bs :=
    trace.past_or_carries.resolve_left (by simp [Session.Past, phase])
  have count : bs.length = 3 + 2 * s.ses.nwords := by simpa [Session.bytesMoved, phase] using carries.count
  obtain ⟨aL, aH, len, ds, rfl, words⟩ := exists_cons_of_length count
  refine ⟨aL, aH, len, ds, rfl, words, ?_⟩
  simpa [Nat.add_assoc] using carries.sum_with_checksum phase

end Sys2Proof.Machine
end

section
/-! The bytes of the programming session (42_programming_session.md R131 to R156): what the row of each byte does to
the record, in a state in which its row is selected. -/

namespace Sys2Proof.Machine

open Sys2Proof

/-! ### The rows that an access selects -/

section
variable {s : State}

theorem commandsSession_of_access (access : s.WriteAccess .cmd) (mode : s.progMode = true) :
    commandsSession s = true := by
  simp [commandsSession, (writesAt_iff s .cmd).mpr access, mode]

theorem paramsSession_of_access {p : ParamRole} (access : s.WriteAccess .cmdp) (mode : s.progMode = true)
    (role : paramRole s.ses.phase = p) : paramsSession s p = true := by
  simp [paramsSession, (writesAt_iff s .cmdp).mpr access, mode, role]

theorem channelWrites_of_access {w : ChanWrite} (access : s.WriteAccess .data) (role : chanWriteRole s.ses = w) :
    channelWrites s w = true := by
  simp [channelWrites, (writesAt_iff s .data).mpr access, role]

theorem channelReads_of_access {r : ChanRead} (access : s.ReadAccess .data) (role : chanReadRole s.ses = r) :
    channelReads s r = true := by
  simp [channelReads, (readsAt_iff s .data).mpr access, role]

/-- A read on the data channel delivers its byte and moves the cursor by one: the data window does not cycle. -/
theorem afterRead_data (access : s.ReadAccess .data) (out : Byte × State) :
    afterRead s out = { out.2 with ptr := s.ptr + 1, outLog := out.2.outLog ++ [.hostRead out.1] } := by
  rw [afterRead_eq, nextR_of_not_id (access.region ▸ nofun)]

theorem paramRole_other {ph : Phase} (lo : ph ≠ .addrLo) (hi : ph ≠ .addrHi) (len : ph ≠ .len) :
    paramRole ph = .other := by
  cases ph with
  | addrLo => exact absurd rfl lo
  | addrHi => exact absurd rfl hi
  | len => exact absurd rfl len
  | _ => rfl

end

/-! ### Bytes and words -/

theorem joinBytes_eq_ofNat (h l : Byte) : joinBytes h l = BitVec.ofNat 16 (h.toNat * 256 + l.toNat) := by
  have hh := h.isLt
  have hl := l.isLt
  apply BitVec.eq_of_toNat_eq
  rw [joinBytes, BitVec.toNat_append, ← Nat.shiftLeft_add_eq_or_of_lt hl, Nat.shiftLeft_eq, BitVec.toNat_ofNat]
  omega

theorem lowByte_eq_ofNat (w : Word) : lowByte w = BitVec.ofNat 8 (w.toNat % 256) := by
  apply BitVec.eq_of_toNat_eq
  simp [lowByte]

theorem highByte_eq_ofNat (w : Word) : highByte w = BitVec.ofNat 8 (w.toNat / 256) := by
  apply BitVec.eq_of_toNat_eq
  simp [highByte, Nat.shiftRight_eq_div_pow]

/-- Only the lengths `0x00` and `0x01` ask for no word (R142). -/
theorem wordCount_eq_zero_iff (b : Byte) : wordCount b = 0 ↔ b.toNat < 2 := by
  unfold wordCount maxWords
  omega

/-! ### The ends of a length byte and of a word (R142, R143, R150) -/

theorem beginData_eq (x : Session) :
    beginData x = { x with
      phase := if x.nwords = 0 then .csumOut else .data
      csum := if x.nwords = 0 then -x.acc else x.csum } := by
  unfold beginData
  split_ifs <;> rfl

theorem endWord_eq (x : Session) :
    endWord x = { x with
      phase := if x.idx = x.nwords then .csumOut else x.phase
      csum := if x.idx = x.nwords then -x.acc else x.csum } := by
  unfold endWord
  split_ifs <;> rfl

/-! ### Command bytes -/

/-- Settles O29: each code's row sets its own session. -/
theorem commandBytesStartAFreshSession : Obligations.CommandBytesStartAFreshSession := by
  intro s access mode
  have selected := commandsSession_of_access access mode
  refine ⟨rowWhen_true selected _, rowWhen_true selected _, rowWhen_true selected _, ?_⟩
  intro code erase write read disable
  exact rowWhen_true (by simp [selected, Config.progCodes, erase, write, read, disable]) _

/-- Settles O30: `DoDisable` asks only whether the build is a runtime build. -/
theorem disableLeavesProgrammingMode : Obligations.DisableLeavesProgrammingMode := by
  intro s access mode
  have row : exec .pcmdDisable s = .next (afterWrite s (doDisable s)) :=
    rowWhen_true (commandsSession_of_access access mode) _
  refine ⟨fun runtime => ?_, fun boot => ?_⟩
  · rw [row, doDisable, runtime]
    rfl
  · rw [row, doDisable, boot]
    rfl

/-- `SessCommand` does not read the session it replaces (R158). -/
theorem sessCommand_setSes (d : Byte) (s : State) (x : Session) : sessCommand d (s.setSes x) = sessCommand d s := by
  unfold sessCommand
  rw [State.setSes_cfg]
  split_ifs <;> rfl

/-- A command byte of runtime mode overwrites the pending slot (R188). -/
theorem wrCmd_setPend {s : State} (mode : s.progMode = false) (d : Byte) (p : Option Byte) :
    wrCmd d (s.setPend p) = wrCmd d s := by
  rw [wrCmd_runtime mode, wrCmd_runtime (s := s.setPend p) mode]
  rfl

/-- Settles O57: the handler of either mode writes the field without reading it, and the selector reads neither. -/
theorem latestCommandByteWins : Obligations.LatestCommandByteWins := by
  refine ⟨fun s x d mode => ?_, fun s p d mode => ?_⟩
  · have handler : wrCmd d (s.setSes x) = wrCmd d s := by
      rw [wrCmd_programming mode, wrCmd_programming (s := s.setSes x) mode, sessCommand_setSes]
    exact congrArg (fun t => rowWhen (writesAt s .cmd) (afterWrite s t)) handler
  · exact congrArg (fun t => rowWhen (writesAt s .cmd) (afterWrite s t)) (wrCmd_setPend mode d p)

/-! ### Parameter bytes -/

/-- Settles O31: the row keeps the byte and asks for the next. -/
theorem lowAddressByteIsKept : Obligations.LowAddressByteIsKept := by
  intro s p access mode phase
  exact rowWhen_true (paramsSession_of_access access mode (phase ▸ rfl)) _

/-- Settles O32: the two ends of a high address byte, with the word address as half the byte address. -/
theorem highAddressByteSetsTheTarget : Obligations.HighAddressByteSetsTheTarget := by
  intro s p access mode phase
  have row : exec (.paramAddrHi p) s = .next (afterWrite s (paramAddrHi p s)) :=
    rowWhen_true (paramsSession_of_access access mode (phase ▸ rfl)) _
  dsimp only
  rw [row, ← toNat_wordAddress, BitVec.ofNat_toNat, BitVec.setWidth_eq]
  obtain ⟨past, e⟩ | ⟨inside, e⟩ := paramAddrHi_cases p s <;> rw [e]
  · exact ⟨fun _ => rfl, fun inside => absurd past (by omega)⟩
  · exact ⟨fun past => absurd past (by omega), fun _ => rfl⟩

/-- Settles O33: the length byte of a WRITE reads no flash, and begins the data phase. -/
theorem lengthByteOfAWrite : Obligations.LengthByteOfAWrite := by
  intro s p access mode phase cmd
  have row : exec (.paramLen p) s = .next (afterWrite s (paramLen p s)) :=
    rowWhen_true (paramsSession_of_access access mode (phase ▸ rfl)) _
  have noRead : paramLen p s = s.setSes (beginData
      { s.ses with acc := s.ses.acc + p, nwords := wordCount p, idx := 0, hi := false }) :=
    if_neg (by simp [cmd])
  rw [row, noRead]
  refine ⟨fun words => ?_, fun noWords => ?_⟩
  · have count : wordCount p ≠ 0 := by
      rw [Ne, wordCount_eq_zero_iff]
      omega
    rw [beginData, if_neg count]
    rfl
  · rw [beginData, if_pos ((wordCount_eq_zero_iff p).mpr noWords)]
    rfl

/-- The buffer after `MemRead`: the words read, then the rest as it was (R145). -/
def filledBuffer (s : State) (n : Nat) : List Word := readWords s s.ses.waddr.toNat n ++ s.ses.buf.drop n

theorem length_filledBuffer {s : State} {n : Nat} (buf : s.ses.buf.length = maxWords) (fits : n ≤ maxWords) :
    (filledBuffer s n).length = maxWords := by
  rw [filledBuffer, List.length_append, length_readWords, List.length_drop, buf]
  exact Nat.add_sub_cancel' fits

/-- A word of the flash is read as it is, with no regard to rows or the boundary (R144). -/
theorem getD_filledBuffer_read {s : State} {n i : Nat} (read : i < n)
    (inside : s.ses.waddr.toNat + i < s.cfg.flashWords) :
    (filledBuffer s n).getD i 0 = s.flashWord (s.ses.waddr.toNat + i) := by
  rw [filledBuffer, List.getD_append _ _ _ _ (by simpa using read)]
  simp [readWords, readWord, read, inside]

theorem getD_filledBuffer_kept {s : State} {n i : Nat} (kept : n ≤ i) :
    (filledBuffer s n).getD i 0 = s.ses.buf.getD i 0 := by
  rw [filledBuffer, List.getD_append_right _ _ _ _ (by simpa using kept), length_readWords,
    List.getD_eq_getElem?_getD, List.getElem?_drop, Nat.add_sub_cancel' kept, List.getD_eq_getElem?_getD]

/-- Settles O34: the length byte of a READ calls `MemRead` once, fills the buffer, and begins the data phase. -/
theorem lengthByteOfAReadFillsTheBuffer : Obligations.LengthByteOfAReadFillsTheBuffer := by
  intro s p inv access mode phase cmd
  obtain ⟨-, ⟨-, -, buf, -⟩, -⟩ := inv
  have row : exec (.paramLen p) s = .next (afterWrite s (paramLen p s)) :=
    rowWhen_true (paramsSession_of_access access mode (phase ▸ rfl)) _
  have fills : paramLen p s = (memRead s.ses.waddr.toNat (wordCount p) s).setSes (beginData
      { s.ses with
        acc := s.ses.acc + p, nwords := wordCount p, idx := 0, hi := false, buf := filledBuffer s (wordCount p) }) :=
    if_pos cmd
  rw [fills, beginData_eq] at row
  exact ⟨_, filledBuffer s (wordCount p), row, length_filledBuffer buf (wordCount_le p),
    fun _ read inside => getD_filledBuffer_read read inside, fun _ kept => getD_filledBuffer_kept kept, rfl, rfl, rfl⟩

/-! ### Bytes that the phase does not expect -/

/-- Settles O35: outside the phases that expect it a byte has the row that ignores it. -/
theorem unexpectedBytesAreIgnored : Obligations.UnexpectedBytesAreIgnored := by
  refine fun s => ⟨fun p access mode lo hi len => ?_, fun d access data confirm => ?_, fun access data csum => ?_⟩
  · exact rowWhen_true (paramsSession_of_access access mode (paramRole_other lo hi len)) _
  · exact rowWhen_true (channelWrites_of_access access (chanWriteRole_other_iff.mpr ⟨data, confirm⟩)) _
  · have row : exec .dataRdOther s = .next (afterRead s (sentinel, s)) :=
      rowWhen_true (channelReads_of_access access (chanReadRole_other_iff.mpr ⟨data, csum⟩)) _
    rw [row, afterRead_data access]

/-! ### Data bytes -/

/-- Settles O36: the low byte is kept, the high byte joins it in the buffer and ends the word. -/
theorem dataBytesFillTheBuffer : Obligations.DataBytesFillTheBuffer := by
  refine fun s d access data => ⟨fun lo => ?_, fun hi => ?_⟩
  · exact rowWhen_true (channelWrites_of_access access (chanWriteRole_lo_iff.mpr ⟨data, lo⟩)) _
  · have row : exec (.dataWrHi d) s = .next (afterWrite s (dataHigh d s)) :=
      rowWhen_true (channelWrites_of_access access (chanWriteRole_hi_iff.mpr ⟨data, hi⟩)) _
    obtain ⟨phase, -⟩ := data
    rw [row, dataHigh, endWord_eq, joinBytes_eq_ofNat, phase, accumulate_two]
    rfl

/-- Settles O37: the byte is compared with `C_WRITE`. -/
theorem confirmationByteDecides : Obligations.ConfirmationByteDecides := by
  intro s d access phase
  have row : exec (.dataWrConfirm d) s = .next (afterWrite s (confirmWrite d s)) :=
    rowWhen_true (channelWrites_of_access access (chanWriteRole_confirm_iff.mpr phase)) _
  refine ⟨fun confirmed => ?_, fun abandoned => ?_⟩
  · rw [row, confirmWrite, if_pos confirmed]
    rfl
  · rw [row, confirmWrite, if_neg abandoned]
    rfl

/-- Settles O38: the two bytes of the buffered word, the second of which ends the word. -/
theorem dataReadsServeTheBuffer : Obligations.DataReadsServeTheBuffer := by
  intro s access data
  dsimp only
  rw [← lowByte_eq_ofNat, ← highByte_eq_ofNat]
  refine ⟨fun lo => ?_, fun hi => ?_⟩
  · have row : exec .dataRdLo s = .next (afterRead s (readLow s)) :=
      rowWhen_true (channelReads_of_access access (chanReadRole_lo_iff.mpr ⟨data, lo⟩)) _
    rw [row, afterRead_data access]
    rfl
  · have row : exec .dataRdHi s = .next (afterRead s (readHigh s)) :=
      rowWhen_true (channelReads_of_access access (chanReadRole_hi_iff.mpr ⟨data, hi⟩)) _
    obtain ⟨phase, -⟩ := data
    rw [row, afterRead_data access, readHigh, endWord_eq, phase, accumulate_two]
    rfl

theorem serveChecksum_read {s : State} (read : s.ses.cmd = .read) :
    serveChecksum s = (s.ses.csum, s.setSes Session.idle) := by
  simp [serveChecksum, read]

theorem serveChecksum_afterChecksum {s : State} (write : s.ses.cmd = .write)
    (commit : s.cfg.writeCommit = .afterChecksum) :
    serveChecksum s = (s.ses.csum, s.setSes { s.ses with phase := .writeReady }) := by
  simp [serveChecksum, write, commit]

theorem serveChecksum_afterConfirm {s : State} (write : s.ses.cmd = .write)
    (commit : s.cfg.writeCommit = .afterConfirm) :
    serveChecksum s = (s.ses.csum, s.setSes { s.ses with phase := .awaitConfirm }) := by
  simp [serveChecksum, write, commit]

/-- Settles O39: the checksum is delivered, and the command and `WRITE_COMMIT` decide what follows. -/
theorem checksumByteIsServed : Obligations.ChecksumByteIsServed := by
  intro s access phase
  have row : exec .dataRdCsum s = .next (afterRead s (serveChecksum s)) :=
    rowWhen_true (channelReads_of_access access (chanReadRole_csum_iff.mpr phase)) _
  rw [row, afterRead_data access]
  refine ⟨fun read => ?_, fun write commit => ?_, fun write commit => ?_⟩
  · rw [serveChecksum_read read]
    rfl
  · rw [serveChecksum_afterChecksum write commit]
    rfl
  · rw [serveChecksum_afterConfirm write commit]
    rfl

end Sys2Proof.Machine
end

section
/-! The deferred flash actions of a pass, and the row policy of every step (43_flash_policy.md R161 to R168). -/

namespace Sys2Proof.Machine

open Sys2Proof

/-! ### What the two actions do (R162, R163) -/

theorem length_take_clamped {buf : List Word} {n : Nat} (fits : n ≤ buf.length) (wa : Nat) :
    (buf.take (clampedLength wa n)).length = clampedLength wa n :=
  List.length_take_of_le ((clampedLength_le wa n).1.trans fits)

theorem getD_take {buf : List Word} {k i : Nat} (taken : i < k) : (buf.take k).getD i 0 = buf.getD i 0 := by
  rw [List.getD_eq_getElem?_getD, List.getElem?_take_of_lt taken, ← List.getD_eq_getElem?_getD]

/-- A deferred write is one call, unless the guard stops it or the clamped range is empty (R164, R167). -/
theorem execWrite_eq (wa : Nat) (buf : List Word) (n : Nat) (s : State) :
    execWrite wa buf n s = if s.cfg.boundary ≤ wa ∧ 0 < clampedLength wa n then
      memWrite wa (buf.take (clampedLength wa n)) s else s := by
  obtain below | guard := Nat.lt_or_ge wa s.cfg.boundary
  · rw [execWrite, if_pos below, if_neg (by omega)]
  · obtain empty | call := Nat.eq_zero_or_pos (clampedLength wa n)
    · rw [execWrite, if_neg (by omega), if_pos empty, if_neg (by omega)]
    · rw [execWrite, if_neg (by omega), if_neg (by omega), if_pos ⟨guard, call⟩]

/-- A deferred write programs the clamped range of a target at or past the boundary, by one call unless the range is
empty, and leaves every other word (R164, R165, R167; 20_memory.md R66). -/
theorem execWrite_spec (wa : Nat) {buf : List Word} {n : Nat} (fits : n ≤ buf.length) (s : State) :
    (∀ a, (execWrite wa buf n s).flashWord a =
      if s.cfg.boundary ≤ wa ∧ wa ≤ a ∧ a < wa + clampedLength wa n then
        programmedWord s.cfg (s.flashWord a) (buf.getD (a - wa) 0)
      else s.flashWord a) ∧
    (execWrite wa buf n s).outLog = s.outLog ++
      (if s.cfg.boundary ≤ wa ∧ 0 < clampedLength wa n then
        [.writeRow wa (buf.take (clampedLength wa n)) (clampedLength wa n)] else []) ∧
    { execWrite wa buf n s with flash := s.flash, outLog := s.outLog } = s := by
  by_cases call : s.cfg.boundary ≤ wa ∧ 0 < clampedLength wa n
  · obtain ⟨log, words, frame⟩ := memWrite_spec wa (buf.take (clampedLength wa n)) s
    rw [length_take_clamped fits] at log words
    rw [execWrite_eq, if_pos call, if_pos call]
    refine ⟨fun a => (words a).trans ?_, log, frame⟩
    by_cases range : wa ≤ a ∧ a < wa + clampedLength wa n
    · rw [if_pos range, if_pos ⟨call.1, range⟩, getD_take (by omega)]
    · rw [if_neg range, if_neg fun h => range h.2]
  · rw [execWrite_eq, if_neg call, if_neg call]
    exact ⟨fun a => (if_neg (by omega)).symm, (List.append_nil _).symm, rfl⟩

/-- A deferred erase erases the row of a target at or past the boundary by one call, and leaves every other word
(R163, R164; 20_memory.md R65). -/
theorem execErase_spec (wa : Nat) (s : State) :
    (∀ a, (execErase wa s).flashWord a =
      if s.cfg.boundary ≤ wa ∧ rowStart wa ≤ a ∧ a < rowStart wa + rowWords then s.cfg.erasedWord &&& s.cfg.wordMask
      else s.flashWord a) ∧
    (execErase wa s).outLog = s.outLog ++ (if s.cfg.boundary ≤ wa then [.eraseRow (rowStart wa)] else []) ∧
    { execErase wa s with flash := s.flash, outLog := s.outLog } = s := by
  obtain below | guard := Nat.lt_or_ge wa s.cfg.boundary
  · rw [execErase, if_pos below, if_neg (by omega)]
    exact ⟨fun a => (if_neg (by omega)).symm, (List.append_nil _).symm, rfl⟩
  · obtain ⟨log, words, frame⟩ := memErase_spec (rowStart wa) s
    rw [execErase, if_neg (by omega), if_pos guard]
    simp only [guard, true_and]
    exact ⟨words, log, frame⟩

/-! ### A pass that finds a queued action -/

theorem exec_tick_of_pend_none {s : State} (none : s.pend = .none) : exec .tick s = .next (tickSession s) :=
  congrArg (fun u => Host.Outcome.next (tickSession u)) (tickDispatch_none none)

theorem tickSession_writeReady {s : State} (phase : s.ses.phase = .writeReady) :
    tickSession s = (execWrite s.ses.waddr.toNat s.ses.buf s.ses.nwords s).setSes Session.idle := by
  simp [tickSession, phase]

theorem tickSession_eraseReady {s : State} (phase : s.ses.phase = .eraseReady) :
    tickSession s = (execErase s.ses.waddr.toNat s).setSes Session.idle := by
  simp [tickSession, phase]

/-- A session writes no more words than its buffer holds (10_state.md R33, R34 (1)). -/
theorem State.Inv.nwords_le_buf {s : State} (h : s.Inv) : s.ses.nwords ≤ s.ses.buf.length := by
  obtain ⟨-, ⟨-, -, buf, -⟩, -, -, -, ⟨-, fits⟩, -⟩ := h
  exact buf ▸ fits

theorem rowStart_eq (wa : Nat) : rowStart wa = 32 * (wa / 32) := by
  unfold rowStart rowWords
  omega

/-- Settles O41: the pass is `ExecWrite` of the queued target and words, and the session ends. -/
theorem passWritesTheQueuedWords : Obligations.PassWritesTheQueuedWords := by
  intro s h none phase
  obtain ⟨words, log, frame⟩ := execWrite_spec s.ses.waddr.toNat h.nwords_le_buf s
  refine ⟨_, exec_tick_of_pend_none none, ?_⟩
  rw [tickSession_writeReady phase]
  refine ⟨rfl, fun a => ?_, log, congrArg (State.setSes · s.ses) frame⟩
  refine (words a).trans ?_
  unfold programmedWord
  cases s.cfg.flashWriteMode <;> rfl

/-- Settles O42: the pass is `ExecErase` of the queued target, and the session ends. -/
theorem passErasesTheQueuedRow : Obligations.PassErasesTheQueuedRow := by
  intro s none phase wa ra
  obtain ⟨words, log, frame⟩ := execErase_spec wa s
  rw [rowStart_eq] at words log
  refine ⟨_, exec_tick_of_pend_none none, ?_⟩
  rw [tickSession_eraseReady phase]
  exact ⟨rfl, words, log, congrArg (State.setSes · s.ses) frame⟩

/-! ### The session part of a pass under the row policy -/

theorem writeRow_obeysRowPolicy {c : Config} (bounds : c.Bounds) {wa n : Nat} {ws : List Word}
    (guard : c.boundary ≤ wa) (inside : wa < c.flashWords) (length : ws.length = clampedLength wa n)
    (nonempty : 0 < clampedLength wa n) : (Output.writeRow wa ws (clampedLength wa n)).obeysRowPolicy c := by
  obtain ⟨-, clamped, row, -⟩ := clampedLength_le wa n
  obtain ⟨-, -, -, -, last⟩ := rowStart_bounds bounds.boundaryRow bounds.flashRow guard inside
  exact ⟨nonempty, clamped, guard, row.trans last, length⟩

theorem eraseRow_obeysRowPolicy {c : Config} (bounds : c.Bounds) {wa : Nat} (guard : c.boundary ≤ wa)
    (inside : wa < c.flashWords) : (Output.eraseRow (rowStart wa)).obeysRowPolicy c := by
  obtain ⟨aligned, first, -, -, last⟩ := rowStart_bounds bounds.boundaryRow bounds.flashRow guard inside
  exact ⟨aligned, first, last⟩

/-- The session part makes at most one call, under the row policy (R168 (1) to (4)). -/
theorem tickSession_calls {s : State} (h : s.Inv) :
    ∃ calls, (tickSession s).outLog = s.outLog ++ calls ∧ (∀ o ∈ calls, o.obeysRowPolicy s.cfg) ∧
      calls.length ≤ 1 := by
  have bounds := Config.bounds h.cfg_wf
  obtain e | ⟨phase, e⟩ | ⟨phase, e⟩ := tickSession_cases s <;> rw [e]
  · exact ⟨[], (List.append_nil _).symm, nofun, Nat.zero_le 1⟩
  · have inside := h.target_of_queued (.inl phase)
    obtain ⟨-, log, -⟩ := execWrite_spec s.ses.waddr.toNat h.nwords_le_buf s
    refine ⟨_, log, ?_⟩
    split_ifs with call
    · simpa using writeRow_obeysRowPolicy bounds call.1 inside (length_take_clamped h.nwords_le_buf _) call.2
    · simp
  · have inside := h.target_of_queued (.inr phase)
    obtain ⟨-, log, -⟩ := execErase_spec s.ses.waddr.toNat s
    refine ⟨_, log, ?_⟩
    split_ifs with guard
    · simpa using eraseRow_obeysRowPolicy bounds guard inside
    · simp

/-- The guard protects the words below the boundary in every state: a row that begins below it ends there (R164). -/
theorem tickSession_flashWord_below {s : State} (wf : s.cfg.wf = true) {a : Nat} (below : a < s.cfg.boundary) :
    (tickSession s).flashWord a = s.flashWord a := by
  obtain e | ⟨-, e⟩ | ⟨-, e⟩ := tickSession_cases s <;> rw [e]
  · obtain e | ⟨ws, guard, -, e⟩ := execWrite_cases s.ses.waddr.toNat s.ses.buf s.ses.nwords s <;> rw [e]
    · rfl
    · obtain ⟨-, words, -⟩ := memWrite_spec s.ses.waddr.toNat ws s
      exact (words a).trans (if_neg (by omega))
  · obtain ⟨words, -, -⟩ := execErase_spec s.ses.waddr.toNat s
    have aligned := (Config.bounds wf).boundaryRow
    exact (words a).trans (if_neg (by unfold rowStart rowWords at *; omega))

/-! ### Every other part of a step -/

/-- From `s` to `t` the flash is untouched, and the log gains no erase or write. -/
structure NoFlashChange (s t : State) : Prop where
  cfg : t.cfg = s.cfg
  flash : t.flash = s.flash
  log : ∃ new, t.outLog = s.outLog ++ new ∧ ∀ o ∈ new, o.isFlashChange = false

section
variable {s t u : State} {i : Instr}

theorem NoFlashChange.silent (cfg : t.cfg = s.cfg) (flash : t.flash = s.flash) (log : t.outLog = s.outLog) :
    NoFlashChange s t :=
  ⟨cfg, flash, [], by rw [log, List.append_nil], nofun⟩

theorem NoFlashChange.record (o : Output) (kind : o.isFlashChange = false) (cfg : t.cfg = s.cfg)
    (flash : t.flash = s.flash) (log : t.outLog = s.outLog ++ [o]) : NoFlashChange s t :=
  ⟨cfg, flash, [o], log, by simpa using kind⟩

theorem NoFlashChange.flashWord (h : NoFlashChange s t) (a : Nat) : t.flashWord a = s.flashWord a := by
  rw [State.flashWord, State.flashWord, h.cfg, h.flash]

/-- The policy speaks of erases and writes alone. -/
theorem obeysRowPolicy_of_not_flashChange {o : Output} (kind : o.isFlashChange = false) (c : Config) :
    o.obeysRowPolicy c := by
  cases o with
  | eraseRow ra => cases kind
  | writeRow wa ws n => cases kind
  | _ => trivial

theorem noFlashChange_write (e : WriteEffect s i t) : NoFlashChange s t := by
  cases e with
  | closed | pointer | skipped | register | pending | session => exact .silent rfl rfl rfl
  | fill p wa n mode move => exact .record (.readWords wa n) rfl rfl rfl rfl
  | disable mode => exact .record .exitProgramming rfl rfl rfl rfl

theorem noFlashChange_read (e : ReadEffect s i t) : NoFlashChange s t := by
  cases e with
  | closed => exact .record (.hostRead sentinel) rfl rfl rfl rfl
  | served i b => exact .record (.hostRead b) rfl rfl rfl rfl
  | session b mode move => exact .record (.hostRead b) rfl rfl rfl rfl

theorem noFlashChange_code (e : CodeEffect s i u) : NoFlashChange s (u.setPend none) := by
  cases e with
  | programEnable | configEnable | configDisable | calDefault | unknown => exact .silent rfl rfl rfl
  | calLoad => exact .record .restore rfl rfl rfl rfl
  | calStore => exact .record (.persist (s.rfBlock s.cfg.calBase s.cfg.calLen)) rfl rfl rfl rfl
  | encryptionEnable => exact .record (.deriveKey (keyBlock s) (deriveKeyOk s.cfg (keyBlock s))) rfl rfl rfl rfl

/-- A pass is its dispatcher part, which changes no flash word, then the session part (R109). -/
theorem pass_eq_tickSession (e : PassEffect s i t) :
    ∃ u, NoFlashChange s u ∧ (s.Inv → u.Inv) ∧ t = tickSession u := by
  cases e with
  | idle none => exact ⟨s, .silent rfl rfl rfl, id, rfl⟩
  | code b found action => exact ⟨_, noFlashChange_code action, inv_code action, rfl⟩

/-- Only the session part of a pass changes the flash (R161). -/
theorem step_noFlashChange_or_session (e : StepEffect s t) :
    NoFlashChange s t ∨ ∃ u, NoFlashChange s u ∧ (s.Inv → u.Inv) ∧ t = tickSession u := by
  cases e with
  | undelivered | address | stop | ovf | appwr => exact .inl (.silent rfl rfl rfl)
  | cutRead input row => exact .inl (.record (.hostRead sentinel) rfl rfl rfl rfl)
  | write input row effect =>
    obtain ⟨cfg, flash, log⟩ := noFlashChange_write effect
    exact .inl ⟨cfg, flash, log⟩
  | read input row effect =>
    obtain ⟨cfg, flash, log⟩ := noFlashChange_read effect
    exact .inl ⟨cfg, flash, log⟩
  | pass rest row effect =>
    obtain ⟨u, ⟨cfg, flash, log⟩, inv, e⟩ := pass_eq_tickSession effect
    exact .inr ⟨u, ⟨cfg, flash, log⟩, inv, e⟩
  | reset input row => exact .inl (.record .reset rfl rfl rfl rfl)

theorem step_flashWord_below (wf : s.cfg.wf = true) (e : StepEffect s t) {a : Nat} (below : a < s.cfg.boundary) :
    t.flashWord a = s.flashWord a := by
  obtain same | ⟨u, same, -, rfl⟩ := step_noFlashChange_or_session e
  · exact same.flashWord a
  · have bound : a < u.cfg.boundary := same.cfg ▸ below
    exact (tickSession_flashWord_below (same.cfg ▸ wf) bound).trans (same.flashWord a)

/-- The log gains the records of the dispatcher or of the bus, then the calls of the session part. -/
theorem step_calls (h : s.Inv) (e : StepEffect s t) :
    ∃ new calls, t.outLog = s.outLog ++ (new ++ calls) ∧ (∀ o ∈ new, o.isFlashChange = false) ∧
      (∀ o ∈ calls, o.obeysRowPolicy s.cfg) ∧ calls.length ≤ 1 := by
  obtain ⟨-, -, new, log, kind⟩ | ⟨u, ⟨cfg, -, new, log, kind⟩, inv, rfl⟩ := step_noFlashChange_or_session e
  · exact ⟨new, [], by rw [log, List.append_nil], kind, nofun, Nat.zero_le 1⟩
  · obtain ⟨calls, callLog, obeys, one⟩ := tickSession_calls (inv h)
    exact ⟨new, calls, by rw [callLog, log, List.append_assoc], kind, cfg ▸ obeys, one⟩

end

/-- Settles O52: a step changes the flash by the session part of a pass alone, which the guard and the clamp bind. -/
theorem flashCallsFollowTheRowPolicy : Obligations.FlashCallsFollowTheRowPolicy := by
  refine ⟨fun s t a hs below => ?_, fun s t h hs => ?_⟩
  · obtain ⟨wf, effect⟩ := step_effect hs
    exact step_flashWord_below wf effect below
  · obtain ⟨new, calls, log, kind, obeys, one⟩ := step_calls h (step_effect hs).2
    refine ⟨new ++ calls, log, fun o ho => ?_, ?_⟩
    · obtain ho | ho := List.mem_append.mp ho
      · exact obeysRowPolicy_of_not_flashChange (kind o ho) s.cfg
      · exact obeys o ho
    · have noChange : new.filter Output.isFlashChange = [] :=
        List.filter_eq_nil_iff.mpr fun o ho => by simp [kind o ho]
      rw [List.filter_append, noChange, List.nil_append]
      exact (List.length_filter_le _ _).trans one

end Sys2Proof.Machine
end

section
/-! The parameter registers (41_register_access.md R115; 44_command_dispatcher.md R191). -/

namespace Sys2Proof.Machine

open Sys2Proof

theorem wrCmdp_runtime {s : State} (mode : s.progMode = false) (d : Byte) : wrCmdp d s = s := by
  simp [wrCmdp, mode]

theorem wrCmdp_programming {s : State} (mode : s.progMode = true) (d : Byte) : wrCmdp d s = sessParam d s := by
  simp [wrCmdp, mode]

/-- A length byte writes the session, and with the inline read of a READ the log and the draws (R141, R145). -/
theorem paramLen_frame (d : Byte) (s : State) :
    { paramLen d s with ses := s.ses, outLog := s.outLog, draws := s.draws } = s := by
  unfold paramLen
  dsimp only
  split_ifs <;> rfl

/-- `SessParam` writes the session, the log and the draws, nothing else (R137). -/
theorem sessParam_frame (d : Byte) (s : State) :
    { sessParam d s with ses := s.ses, outLog := s.outLog, draws := s.draws } = s := by
  unfold sessParam
  cases paramRole s.ses.phase with
  | addrLo => rfl
  | addrHi =>
    dsimp only
    obtain ⟨-, e⟩ | ⟨-, e⟩ := paramAddrHi_cases d s <;> rw [e] <;> rfl
  | len => exact paramLen_frame d s
  | other => rfl

/-- Settles O23: the handler asks the mode; in programming mode the byte is a parameter of the session. -/
theorem parameterRegisterWriteIsRouted : Obligations.ParameterRegisterWriteIsRouted := by
  intro s d access
  have row : exec (.wrCmdp d) s = .next (afterWrite s (wrCmdp d s)) := exec_regWrite_access access d
  refine ⟨fun mode => ?_, fun mode => ?_⟩
  · rw [row, wrCmdp_runtime mode]
    rfl
  · rw [wrCmdp_programming mode] at row
    exact ⟨_, row, congrArg (State.setPtr · (s.ptr + 1)) (sessParam_frame d s)⟩

end Sys2Proof.Machine
end

section
/-! The pass that finds a runtime code: its row does the code's action and clears the slot (44_command_dispatcher.md
R177 to R187). -/

namespace Sys2Proof.Machine

open Sys2Proof

/-! ### The row of a found code -/

theorem finds_iff (s : State) (code : Byte) : finds s code = true ↔ s.pend = some code := beq_iff_eq

/-- In a state of the invariant no session is open when a code is found, so its row does the action, clears the slot,
and no more. -/
theorem rowWhen_finds {s u : State} {i : Instr} {code : Byte} (h : s.Inv) (found : s.pend = some code)
    (action : CodeEffect s i u) : rowWhen (finds s code) (restOfTick u) = .next (u.setPend none) := by
  rw [rowWhen_true ((finds_iff s code).mpr found), restOfTick_code action h found]

/-- Settles O43: the action leaves an idle session, so the session part of the pass has nothing to do. -/
theorem programEnableEntersProgrammingMode : Obligations.ProgramEnableEntersProgrammingMode := by
  intro s found
  have row : exec .rcmdProgEn s = .next (restOfTick (programEnable s)) :=
    rowWhen_true ((finds_iff s _).mpr found) _
  have rest : restOfTick (programEnable s) = (programEnable s).setPend none := tickSession_idle rfl
  rw [row, rest]
  rfl

/-- Settles O44: each code's row writes the mode and the slot. -/
theorem configCommandsSetTheMode : Obligations.ConfigCommandsSetTheMode :=
  fun _ h => ⟨fun found => rowWhen_finds h found .configEnable, fun found => rowWhen_finds h found .configDisable⟩

/-! ### The calibration range -/

/-- The calibration range lies in half 0 (00_scope.md R12), so a block stored there sets each of its bytes. -/
theorem State.Inv.rfByte_rfStore_cal {s : State} (h : s.Inv) {block : List Byte}
    (length : block.length = s.cfg.calLen) (j : Nat) :
    (s.rfStore s.cfg.calBase block).rfByte j =
      if s.cfg.calBase ≤ j ∧ j < s.cfg.calBase + s.cfg.calLen then block.getD (j - s.cfg.calBase) 0
      else s.rfByte j := by
  have inHalf := (Config.bounds h.cfg_wf).calRange
  have cap := s.cfg.cap_ge
  obtain ⟨-, ⟨file, -⟩, -⟩ := h
  rw [rfByte_rfStore s _ block j (by omega), length]

/-- Settles O45: each row stores its block in the range, CAL-LOAD the durable block as it is. -/
theorem calibrationLoadsFillTheRange : Obligations.CalibrationLoadsFillTheRange := by
  intro s h
  refine ⟨fun found => ?load, fun found => ?default⟩
  case load =>
    have stored : restored s = s.calStore := by
      obtain ⟨-, ⟨-, store, -⟩, -⟩ := h
      exact restored_eq s store
    refine ⟨_, rowWhen_finds h found .calLoad, fun j => ?_, rfl⟩
    rw [← stored]
    exact h.rfByte_rfStore_cal (length_restored s) j
  case default =>
    exact ⟨_, rowWhen_finds h found .calDefault,
      h.rfByte_rfStore_cal (Config.bounds h.cfg_wf).calDefaultLength, rfl⟩

/-- Settles O46: the persisted block is the range read byte by byte. -/
theorem calibrationStorePersistsTheRange : Obligations.CalibrationStorePersistsTheRange :=
  fun s h found => ⟨s.rfBlock s.cfg.calBase s.cfg.calLen, length_rfBlock _ _ _, getD_rfBlock s _ _,
    rowWhen_finds h found .calStore⟩

/-! ### The transform key -/

/-- Settles O47: the key is half 0's key block read byte by byte. -/
theorem encryptionEnableFollowsTheDerivation : Obligations.EncryptionEnableFollowsTheDerivation :=
  fun s h found => ⟨keyBlock s, length_rfBlock _ _ _, getD_rfBlock s _ _,
    rowWhen_finds h found .encryptionEnable⟩

/-! ### Unknown codes -/

theorem runtimeExec_unknown {s : State} {code : Byte} (unknown : code ∉ s.cfg.runtimeCodes) :
    runtimeExec code s = s := by
  simp_all [Config.runtimeCodes, runtimeExec]

/-- Settles O48: a code outside the list of the seven has no action, and D6 keeps the programming codes out of it. -/
theorem unknownRuntimeCodesDoNothing : Obligations.UnknownRuntimeCodesDoNothing := by
  intro s code other
  have unknown : code ∉ s.cfg.runtimeCodes := by
    obtain none | ⟨wf, prog⟩ := other
    · simpa [Config.runtimeCodes] using none
    · exact Config.progCode_not_runtime wf (by simpa [Config.progCodes] using prog)
  refine ⟨fun access mode => ?queued, fun h found => ?pass⟩
  case queued =>
    obtain ⟨queued, -⟩ := commandRegisterWriteIsRouted s code access
    exact queued mode
  case pass =>
    have rest : restOfTick s = s.setPend none := restOfTick_code (.unknown code) h found
    have selected : (finds s code && !s.cfg.runtimeCodes.contains code) = true := by
      simp [(finds_iff s code).mpr found, unknown]
    have tick : exec .tick s = .next (restOfTick (runtimeExec code s)) :=
      congrArg (fun u => Host.Outcome.next (tickSession u)) (tickDispatch_some found)
    rw [runtimeExec_unknown unknown, rest] at tick
    exact ⟨(rowWhen_true selected _).trans (congrArg Host.Outcome.next rest), tick⟩

end Sys2Proof.Machine
end

section
/-! The calibration round trip (44_command_dispatcher.md R190): one step of each of the two codes, and what a run
between them keeps. -/

namespace Sys2Proof.Machine

open Sys2Proof

/-- The row of a step runs in the state as it was, but for the input list and the owner of the bus. -/
theorem exec_of_stepRow {s t : State} {i : Instr} (row : stepRow s = some i) (h : step s = .next t) :
    ∃ inbox bus, exec i { s with inbox := inbox, bus := bus } = .next t := by
  obtain ⟨-, ⟨-, noRow⟩ | ⟨slot, bytes, u, j, hf, -, row', hx⟩⟩ := step_next_cases h
  · cases noRow.symm.trans row
  · cases row'.symm.trans row
    have frame := (fetch_frame s).1 slot bytes u hf
    have taken : u = { s with inbox := u.inbox, bus := u.bus } :=
      congrArg (fun x : State => { x with inbox := u.inbox, bus := u.bus }) frame
    exact ⟨u.inbox, u.bus, taken ▸ hx⟩

/-- A step that executes CAL-STORE leaves the range of before in the durable store (R183). -/
theorem step_calStore {s t : State} (h : s.Inv) (row : stepRow s = some .rcmdCalStore) (hs : step s = .next t) :
    t.cfg = s.cfg ∧ ∀ i, i < s.cfg.calLen → t.calStore.getD i 0 = s.rfByte (s.cfg.calBase + i) := by
  obtain ⟨inbox, bus, hx⟩ := exec_of_stepRow row hs
  have found : s.pend = some s.cfg.cCalStore := (finds_iff s _).mp ((rowWhen_next_iff _ _ _).mp hx).1
  obtain ⟨block, -, bytes, effect⟩ :=
    calibrationStorePersistsTheRange { s with inbox := inbox, bus := bus } h found
  cases hx.symm.trans effect
  exact ⟨rfl, bytes⟩

/-- A step that executes CAL-LOAD puts the durable bytes into the range (R182). -/
theorem step_calLoad {s t : State} (h : s.Inv) (row : stepRow s = some .rcmdCalLoad) (hs : step s = .next t)
    {i : Nat} (below : i < s.cfg.calLen) : t.rfByte (s.cfg.calBase + i) = s.calStore.getD i 0 := by
  obtain ⟨inbox, bus, hx⟩ := exec_of_stepRow row hs
  have found : s.pend = some s.cfg.cCalLoad := (finds_iff s _).mp ((rowWhen_next_iff _ _ _).mp hx).1
  obtain ⟨u, effect, bytes, -⟩ :=
    (calibrationLoadsFillTheRange { s with inbox := inbox, bus := bus } h).1 found
  cases hx.symm.trans effect
  rw [bytes, if_pos ⟨Nat.le_add_right _ _, Nat.add_lt_add_left below _⟩, Nat.add_sub_cancel_left]

/-- A run without CAL-STORE keeps the durable store, the configuration and the invariant (R190, R216). -/
theorem RunWithoutCalStore.keeps_calStore {s t : State} (run : RunWithoutCalStore s t) (h : s.Inv) :
    t.Inv ∧ t.cfg = s.cfg ∧ t.calStore = s.calStore := by
  induction run with
  | refl => exact ⟨h, rfl, rfl⟩
  | more t u _ hs noStore ih =>
    obtain ⟨inv, cfg, store⟩ := ih
    obtain ⟨cfg', -, -, -, -, -, -, writers, -⟩ := eachStatePieceHasItsWriters t u inv hs
    have store' : u.calStore = t.calStore := by
      by_contra written
      exact noStore (writers written)
    exact ⟨everyStepKeepsTheInvariant t u inv hs, cfg'.trans cfg, store'.trans store⟩

/-- Settles O55: the range goes to the durable store, the run keeps the store, and the load brings it back. -/
theorem calibrationRoundTrip : Obligations.CalibrationRoundTrip := by
  intro s t u v h storeRow hst run loadRow huv i below
  obtain ⟨cfgT, stored⟩ := step_calStore h storeRow hst
  obtain ⟨invU, cfgU, kept⟩ := run.keeps_calStore (everyStepKeepsTheInvariant s t h hst)
  have cfg : u.cfg = s.cfg := cfgU.trans cfgT
  calc v.rfByte (s.cfg.calBase + i)
    _ = u.calStore.getD i 0 := cfg ▸ step_calLoad invU loadRow huv (cfg.symm ▸ below)
    _ = t.calStore.getD i 0 := by rw [kept]
    _ = s.rfByte (s.cfg.calBase + i) := stored i below

end Sys2Proof.Machine
end

section
/-! The labels of silent errors (60_exceptions.md R193 to R207): a label needs the condition under which its instruction
completes, so no labelled instruction stops the block. -/

namespace Sys2Proof.Machine

open Sys2Proof

/-- A byte of a transaction is labelled exactly when the gate turns it away (R96, R201, R202). -/
theorem gateError_eq_none_iff (s : State) : gateError s = none ↔ gate s = true := by
  rw [gate_iff]
  unfold gateError
  split_ifs with dev ovf
  · simp [dev]
  · simp [ovf]
  · simp [dev, ovf]

theorem gate_of_gateError {s : State} {e : ErrorClass} (label : gateError s = some e) : gate s = false := by
  rw [← Bool.not_eq_true, ← gateError_eq_none_iff, label]
  exact Option.some_ne_none e

/-- A labelled WR stands in a write transaction whose gate is closed, so it changes nothing (R96). -/
theorem exec_wr_of_label {s : State} {d : Byte} {e : ErrorClass} (label : errorClass (.wr d) s = some e) :
    exec (.wr d) s = .next s := by
  obtain ⟨dir, closed⟩ := Option.ite_none_right_eq_some.mp label
  exact execWr_closed dir (gate_of_gateError closed) d

/-- A labelled RD stands in a read transaction whose gate is closed, so it delivers the sentinel (R96). -/
theorem exec_rd_of_label {s : State} {e : ErrorClass} (label : errorClass .rd s = some e) :
    exec .rd s = .next (s.signal (.hostRead sentinel)) := by
  obtain ⟨dir, closed⟩ := Option.ite_none_right_eq_some.mp label
  exact execRd_closed dir (gate_of_gateError closed)

/-- A row that is labelled only where it is selected completes. -/
theorem rowWhen_of_label {selected : Bool} {label : Option ErrorClass} {e : ErrorClass}
    (h : (if selected then label else none) = some e) (t : State) : rowWhen selected t = .next t :=
  rowWhen_true (Option.ite_none_right_eq_some.mp h).1 t

/-- Settles O59: WR and RD meet a closed gate, a pass always completes, and any other labelled row is selected. -/
theorem noErrorClassStopsTheBlock : Obligations.NoErrorClassStopsTheBlock := by
  intro i s e label
  cases i with
  | wr d => exact ⟨_, exec_wr_of_label label⟩
  | rd => exact ⟨_, exec_rd_of_label label⟩
  | tick => exact ⟨_, rfl⟩
  | wrInvalid d => exact ⟨_, rowWhen_of_label label _⟩
  | rdInvalid => exact ⟨_, rowWhen_of_label label _⟩
  | paramAddrHi p => exact ⟨_, rowWhen_of_label label _⟩
  | paramLen p =>
    obtain ⟨⟨selected, -⟩, -⟩ := Option.ite_none_right_eq_some.mp label
    exact ⟨_, rowWhen_true selected _⟩
  | paramOther p => exact ⟨_, rowWhen_of_label label _⟩
  | dataWrOther d => exact ⟨_, rowWhen_of_label label _⟩
  | dataRdOther => exact ⟨_, rowWhen_of_label label _⟩
  | rcmdEncEn =>
    obtain ⟨refused, -⟩ := Option.ite_none_right_eq_some.mp label
    obtain ⟨found, -⟩ := (Bool.and_eq_true _ _).mp refused
    exact ⟨_, rowWhen_true found _⟩
  | _ => cases label

end Sys2Proof.Machine
end

section
/-! RESET (70_reset_and_hazards.md R214, R215): the values it leaves, the invariant of the state after reset, and the
rest of a transaction that it cuts. -/

namespace Sys2Proof.Machine

open Sys2Proof

/-! ### The reset values (R215) -/

theorem resetBlock_progMode_iff (s : State) : (resetBlock s).progMode = true ↔ s.cfg.runtime = false := by
  simp [resetBlock]

/-- Settles O18: every field that RESET writes has its value by the definition; the register file has `CAP` free bytes,
and the mode is that of the build. -/
theorem resetEventLeavesTheResetValues : Obligations.ResetEventLeavesTheResetValues :=
  fun s => ⟨resetBlock s, rfl, length_freeBytes _ _, rfl, rfl, rfl, rfl, rfl, resetBlock_progMode_iff s, rfl, rfl, rfl,
    rfl, rfl, rfl, rfl, rfl, rfl⟩

/-- The reference configuration passes its checks, nothing is open or queued, and the flash lists no word. -/
theorem inv_reset : State.reset.Inv :=
  ⟨reference_wf, ⟨length_freeBytes _ _, length_freeBytes _ _, List.length_replicate, nofun⟩, rfl,
    ⟨fun _ => rfl, nofun, nofun⟩, ⟨nofun, nofun, fun _ => rfl⟩, sessionInv_idle _⟩

/-- Settles O51: a second RESET finds every field it writes at its reset value, but the draws, the bytes drawn and the
log. -/
theorem resetStateMeetsTheInvariant : Obligations.ResetStateMeetsTheInvariant :=
  ⟨inv_reset, resetBlock State.reset, rfl, rfl⟩

/-! ### A cut transaction (R214) -/

/-- A RESET in the block's own transaction cuts it in the direction it has. -/
theorem Traffic.afterReset_ours {d : Dir} (inside : d ≠ .none) :
    Traffic.ours.afterReset d = if d = .w then .cutWrite else .cutRead := by
  cases d with
  | none => exact absurd rfl inside
  | w => rfl
  | r => rfl

/-- A matching ADDRESS byte is the event ADDR of its read bit, whoever owned the bus before (R77). -/
theorem step_address_event {s : State} {b : Byte} {rest : List Event} (hwf : s.cfg.wf = true)
    (input : s.inbox = .address b :: rest) (reaches : s.cfg.matchesAddr (addressField b) = true) :
    step s = exec (if readBit b then .addrR (addressField b) else .addrW (addressField b))
      { s with inbox := rest, bus := .ours } := by
  rw [step_address_matching hwf input reaches]
  cases readBit b with
  | true => exact (execAddrR_matches (s := { s with inbox := rest, bus := .ours }) reaches).symm
  | false => exact (execAddrW_matches (s := { s with inbox := rest, bus := .ours }) reaches).symm

/-- Settles O60: the RESET keeps the direction as that of the cut; a byte along it is no event of the block, and a byte
against it is a data event, which has no move once the RESET has cleared the direction. -/
theorem bytesOfACutTransactionAreIgnored : Obligations.BytesOfACutTransactionAreIgnored := by
  intro s rest hwf
  refine ⟨fun input bus inside => ?cut,
    fun b input => ⟨fun cut => step_write_ignored hwf input (.inr cut), fun cut dir => ?wrongWrite⟩,
    fun input => ⟨fun cut => step_read_cut hwf input cut, fun cut dir => ?wrongRead⟩,
    fun _ _ input reaches => step_address_event hwf input reaches⟩
  case cut =>
    refine ⟨_, step_reset hwf input, rfl, rfl, ?_⟩
    exact (congrArg (·.afterReset s.dir) bus).trans (Traffic.afterReset_ours inside)
  case wrongWrite =>
    rw [step_write_delivered hwf input (.inr cut)]
    exact execWr_wrong_direction (s := { s with inbox := rest }) (by simp [dir]) b
  case wrongRead =>
    rw [step_read_delivered hwf input (.inr cut)]
    exact execRd_wrong_direction (s := { s with inbox := rest }) (by simp [dir])

end Sys2Proof.Machine
end

section
/-! A main-loop pass leaves nothing queued (40_bus_front_end.md R109; 70_reset_and_hazards.md R237). -/

namespace Sys2Proof.Machine

open Sys2Proof

/-- The dispatcher part clears the slot, whatever code it finds (R177). -/
theorem tickDispatch_pend (s : State) : (tickDispatch s).pend = none := by
  cases found : s.pend with
  | none => rw [tickDispatch_none found, found]
  | some c => rw [tickDispatch_some found, State.setPend_pend]

theorem tickSession_pend (s : State) : (tickSession s).pend = s.pend := by
  obtain ⟨x, m, log, e⟩ := tickSession_writes s
  rw [e]

/-- The session part ends a session that waits for it, and brings none into a ready phase (R161). -/
theorem tickSession_not_ready (s : State) :
    (tickSession s).ses.phase ≠ .writeReady ∧ (tickSession s).ses.phase ≠ .eraseReady := by
  by_cases write : s.ses.phase = .writeReady
  · rw [tickSession_writeReady write]
    exact ⟨nofun, nofun⟩
  by_cases erase : s.ses.phase = .eraseReady
  · rw [tickSession_eraseReady erase]
    exact ⟨nofun, nofun⟩
  obtain same | ended := tickSession_ses s
  · exact same ▸ ⟨write, erase⟩
  · exact ended ▸ ⟨nofun, nofun⟩

/-- Settles O58: the dispatcher part empties the slot and the session part the ready phases, after any state. -/
theorem queuedActionIsRunWhenNothingWaits : Obligations.QueuedActionIsRunWhenNothingWaits :=
  fun s h input => ⟨step_no_input h.cfg_wf input, tickSession (tickDispatch s), rfl,
    (tickSession_pend _).trans (tickDispatch_pend s), tickSession_not_ready _⟩

end Sys2Proof.Machine
end
